-- ==== Sys2Proof/Word.lean ====
section
/-! DEFINITION. The word types of the block and their plainest arithmetic
(spec/00_scope.md section 4, notation). -/

namespace Sys2Proof

/-- The event word `CMD` and the response word `RSP` (30_encoding.md R80). -/
abbrev Word := BitVec 32

/-- One byte of the non-volatile medium (20_memory.md R65). -/
abbrev Byte := BitVec 8

/-- The EnabledNoteMask: bit `i` is note `i` (10_state.md R21). -/
abbrev NoteMask := BitVec 12

/-- The 16-bit field that carries an AnalogSample (30_encoding.md R83). -/
abbrev Sample := BitVec 16

end Sys2Proof
end

