-- ==== Sys2Proof/Config.lean ====
section
/-! DEFINITION. What an implementation fixes (spec/00_scope.md R7, R8): the fixed parameters, the open
parameters as one structure of plain data, the test set T0, and the one free value of the model. -/

namespace Sys2Proof.Config

/-- NOTES: notes per octave and bits of the mask (00_scope.md R7). -/
abbrev notes : Nat := 12

/-- RING_N: slots of the log ring (00_scope.md R7). -/
abbrev ringN : Nat := 128

/-- SLOT_BYTES: bytes of one slot (20_memory.md R61). -/
abbrev slotBytes : Nat := 3

/-- The size in bytes of the non-volatile space (20_memory.md R61). -/
abbrev nvSize : Nat := 384

/-- NV_BASE: the address of slot 0 (20_memory.md R61). -/
abbrev nvBase : Nat := 0

/-- DAC_PER_SEMI: output codes per semitone (00_scope.md R7). -/
abbrev dacPerSemi : Int := 2

/-- One semitone in SemitoneQ8, `2 ^ QFRAC` (00_scope.md R7). -/
abbrev semitone : Int := 256

/-- HALF: six semitones in SemitoneQ8 (41_quantizer.md R104). -/
abbrev halfOctave : Int := 1536

/-- OCT: twelve semitones in SemitoneQ8 (41_quantizer.md R104). -/
abbrev octave : Int := 3072

/-- Pitch Table 1 as plain data (00_scope.md R8, `PT1`): any table of signed 16-bit SemitoneQ8 values, one
per code from 0 up, or the table of the form `k * code` that the spec's test set uses. DESIGN CHOICE, safe:
`entries` alone already describes every table; `linear` is the short way to write T0's. -/
inductive PitchTable where
  | linear (k : Nat)
  | entries (values : List (BitVec 16))
  deriving DecidableEq, Repr

/-- The open parameters of 00_scope.md R8: "each is an argument of the model". Their legal ranges are
`Sys2Proof.Safety.Legal`. `T_SAMPLE` is left out: no rule depends on it (R8). -/
structure Params where
  /-- ADC_BITS, 1 to 16. -/
  adcBits : Nat
  /-- PT1, non-decreasing. -/
  pt1 : PitchTable
  /-- DAC_MAX, where the analog output's largest code is known; the spec gives no T0 value. -/
  dacMax : Option Nat
  /-- DEBOUNCE_W, 2 to 8. -/
  debounceW : Nat
  /-- NV_ERASED: the byte an erased medium reads. -/
  nvErased : Byte
  /-- FILTER_K, 0 to 16, with ADC_BITS + FILTER_K at most 32. -/
  filterK : Nat
  /-- DEADBAND, 0 to ADC_MAX, in sample codes. -/
  deadband : Nat
  /-- GATE_TICKS, at least 1. -/
  gateTicks : BitVec 32
  /-- AUTOSAVE_TICKS, at least 1. -/
  autosaveTicks : BitVec 32
  /-- LED_PINS: the pin pair `(A, B)` of each LED. -/
  ledPins : Vector (Fin 6 × Fin 6) 12
  deriving DecidableEq, Repr

/-- T0, "the test parameter set used by every vector of 95_test_vectors.md" (00_scope.md R8), with the LED
table of 42_panel_scanner.md R128. -/
def t0 : Params where
  adcBits := 10
  pt1 := .linear 15
  dacMax := none
  debounceW := 4
  nvErased := 0xFF#8
  filterK := 0
  deadband := 8
  gateTicks := 3#32
  autosaveTicks := 5#32
  ledPins := #v[(0, 1), (0, 2), (0, 3), (0, 4), (0, 5), (1, 2), (1, 3), (1, 4), (1, 5), (2, 3), (2, 4), (2, 5)]

/-- FREE VALUE: what Pitch Table 1 would give for a code outside `0 .. ADC_MAX`, or beyond the entries of a
table that is too short. The spec gives the table no such entry and no run reads one (20_memory.md R60);
nothing constrains it. -/
opaque offTable : Nat → BitVec 16

end Sys2Proof.Config
end

