-- ==== Sys2Proof/Machine/State.lean ====
section
/-! DEFINITION. The state of the block (spec/10_state.md R20 to R38), the stimuli of its environment, the
reasons a step can stop, and the machine after reset (R45). -/

namespace Sys2Proof.Machine

/-- The drive state of one LED pin (10_state.md R28): input and high impedance, driving low, driving high.
The code 0b01 never occurs, and the type has no such value. -/
inductive Pin where
  | z | l | h
  deriving DecidableEq, Repr

/-- The state of a timer (10_state.md R34): 0 IDLE, 1 RUNNING, 2 EXPIRED; 3 never occurs, and the type has
no such value. -/
inductive TimerState where
  | idle | running | expired
  deriving DecidableEq, Repr

/-- One thing the environment does to the block (00_scope.md R10, 60_exceptions.md R220,
70_reset_and_hazards.md R230). -/
inductive Stimulus where
  /-- An event word arrives (30_encoding.md R80). -/
  | event (cmd : Word)
  /-- The reset input of the block (70_reset_and_hazards.md R230 b). -/
  | resetInput
  /-- `POWERFAIL` between events, or in place of an event that writes no NV byte (60_exceptions.md R220). -/
  | powerFail
  /-- `POWERFAIL(j, g)` in place of the event word `cmd`: `j` of its byte writes complete, and the next one,
  if there is one, leaves the byte `g` where `g` is not "none" (60_exceptions.md R220). -/
  | powerFailDuring (cmd : Word) (j : Fin 4) (g : Option Byte)
  deriving DecidableEq, Repr

/-- The block raises no exception and never halts: "The list of exceptions is therefore empty"
(60_exceptions.md R210, R225). No operation of the model raises a fault, so the type has no constructor. -/
inductive Fault
  deriving DecidableEq, Repr

/-- Why a step gives no meaning. Each is a clause of 30_encoding.md R84, for which the spec says "for a
model, a refused event has no meaning" (R84, 60_exceptions.md R212, 93_implementation_defined.md). -/
inductive Refusal where
  /-- Raised by `exec` for an event that has no meaning yet; no arm of this model answers it. Safe. -/
  | notModelled (mnemonic : String)
  /-- R84 (a): the opcode is 0x5, 0x6, 0x7 or 0xD; raised by `step` through the decoder. Safe. -/
  | reservedOpcode (op : Nat)
  /-- R84 (b): a reserved field is not 0; raised by `step` through the decoder. Safe. -/
  | reservedField
  /-- R84 (c): QUANT with an empty mask; raised by `execQuant`. Safe. -/
  | emptyMask
  /-- R84 (d): QUANT or TICK with `sample > ADC_MAX`; raised by `execQuant` and `execTick`. Safe. -/
  | sampleOutOfRange
  /-- R84 (e): RDREG of a number not listed in 10_state.md R42; raised by `execRdreg`. Safe. -/
  | noSuchRegister (reg : BitVec 8)
  /-- R84 (f): NVWRITE or FLUSH while `NVVALID = 0`; raised by `execNvwrite` and `execFlush`. Safe. -/
  | logNotRecovered
  deriving DecidableEq, Repr

/-- The non-volatile medium as (address, byte) pairs in one canonical form: addresses strictly rising and
below 384, and no byte equal to the erased byte, which an unlisted address reads as (20_memory.md R61,
10_state.md R38). The form is `Memory.wf`. -/
abbrev Memory := List Host.Cell

/-- The canonical form of the medium, for a medium whose erased byte is `erased`. -/
abbrev Memory.wf (erased : Byte) (nv : Memory) : Prop :=
  nv.Pairwise (fun c d => c.1 < d.1) ∧ ∀ c ∈ nv, c.1 < Config.nvSize ∧ c.2 ≠ erased

/-- The complete state of the block (10_state.md R20), and after it the model's own three fields. -/
@[ext]
structure State where
  /-- MASK, the EnabledNoteMask (R21). -/
  mask : NoteMask
  /-- ROW, 0 to 2 (R23). -/
  row : Fin 3
  /-- COL, 0 to 3 (R23). -/
  col : Fin 4
  /-- LEDIDX, 0 to 11 (R24). -/
  ledIdx : Fin 12
  /-- HIST[0..11], the debounce histories, newest sample in bit 0 (R25). -/
  hist : Vector (BitVec 8) 12
  /-- PRESSED, one bit per button (R26). -/
  pressed : BitVec 12
  /-- TOUCH, the pending ButtonEdge (R27). -/
  touch : Bool
  /-- LEDPIN[0..5] (R28). -/
  ledPin : Vector Pin 6
  /-- FILTACC, unsigned (R29). -/
  filtAcc : BitVec 32
  /-- PREVACC, unsigned (R30). -/
  prevAcc : BitVec 16
  /-- PREVEMIT, signed (R31). -/
  prevEmit : BitVec 16
  /-- EMITVALID (R31). -/
  emitValid : Bool
  /-- SOUND, a note or 0xF for NONE (R22). -/
  sound : BitVec 4
  /-- DACCODE, signed (R32). -/
  dacCode : BitVec 16
  /-- GATE (R33). -/
  gate : Bool
  /-- GATECNT (R34). -/
  gateCnt : BitVec 32
  /-- GATEST (R34). -/
  gateSt : TimerState
  /-- SAVECNT (R35). -/
  saveCnt : BitVec 32
  /-- SAVEST (R35). -/
  saveSt : TimerState
  /-- SAVEEL, the autosave elapsed flag (R36). -/
  saveEl : Bool
  /-- CURIDX, the index of the current slot (R37). -/
  curIdx : BitVec 7
  /-- CURSEQ, its sequence number (R37). -/
  curSeq : BitVec 8
  /-- CURPAY, its payload (R37). -/
  curPay : NoteMask
  /-- NVVALID (R37). -/
  nvValid : Bool
  /-- NV, the non-volatile medium (R38). -/
  nv : Memory
  /-- The MODEL's own: the open parameters of 00_scope.md R8, an argument of the model that no step
  writes (notes/assumptions/3.md). DESIGN CHOICE, safe. -/
  params : Config.Params
  /-- The MODEL's own: the environment's stream of stimuli not yet delivered (notes/assumptions/1.md).
  DESIGN CHOICE, safe. -/
  inbox : List Stimulus
  /-- The MODEL's own: `RSP` of the event word the last step took; none when no event word was answered
  (notes/assumptions/2.md). DESIGN CHOICE, safe. -/
  rsp : Option Word
  deriving DecidableEq, Repr

/-- The block at a power-on, for the parameters `p`, on the medium `nv`: every register as 10_state.md R45 says,
the medium as it is (70_reset_and_hazards.md R231, R232), nothing delivered yet. -/
def State.powerOn (p : Config.Params) (nv : Memory) : State where
  mask := 0#12
  row := 0
  col := 0
  ledIdx := 0
  hist := Vector.replicate 12 0#8
  pressed := 0#12
  touch := false
  ledPin := Vector.replicate 6 .z
  filtAcc := 0#32
  prevAcc := 0#16
  prevEmit := 0#16
  emitValid := false
  sound := 0xF#4
  dacCode := 0#16
  gate := false
  gateCnt := 0#32
  gateSt := .idle
  saveCnt := 0#32
  saveSt := .idle
  saveEl := false
  curIdx := 0#7
  curSeq := 0#8
  curPay := 0#12
  nvValid := false
  nv := nv
  params := p
  inbox := []
  rsp := none

/-- The block at its very first power-on, for the parameters `p`: the medium is erased (10_state.md R38,
70_reset_and_hazards.md R232). -/
def State.resetWith (p : Config.Params) : State := State.powerOn p []

/-- The machine right after reset (70_reset_and_hazards.md R231, R232), with the parameter set T0. -/
def State.reset : State := State.resetWith Config.t0

end Sys2Proof.Machine
end

