-- ==== Sys2Proof/Machine/Flags.lean ====
section
/-! DEFINITION. The block has no condition codes (spec/10_state.md R41). Here are its packed views: the
FLAGS register and the codes of R28 and R34, and the bit places of the response words
(spec/30_encoding.md R86). -/

namespace Sys2Proof.Machine

/-- A single bit at place `k` of a 32-bit word. -/
def bitAt (k : Nat) (b : Bool) : Word := (BitVec.ofBool b).setWidth 32 <<< k

/-- A field of `w` bits with its bit 0 at place `k` of a 32-bit word. -/
def fieldAt (k : Nat) (v : BitVec w) : Word := v.setWidth 32 <<< k

/-- `tc16(v)`, the 16-bit two's-complement pattern of `v` (00_scope.md section 4). -/
def tc16 (v : Int) : BitVec 16 := BitVec.ofInt 16 v

/-- The register code of a pin's drive state: bit 1 output enable, bit 0 the level (10_state.md R28). -/
def pinCode (pin : Pin) : BitVec 2 :=
  match pin with
  | .z => 0b00#2
  | .l => 0b10#2
  | .h => 0b11#2

/-- The register code of a timer's state (10_state.md R34). -/
def timerCode (st : TimerState) : BitVec 2 :=
  match st with
  | .idle => 0#2
  | .running => 1#2
  | .expired => 2#2

/-- FLAGS (10_state.md R42, number 0x04). -/
def flagsWord (s : State) : Word :=
  bitAt 0 s.touch ||| bitAt 1 s.saveEl ||| bitAt 2 s.gate ||| bitAt 3 s.nvValid ||| bitAt 4 s.emitValid

/-- SCANPOS (10_state.md R42, number 0x02). -/
def scanposWord (s : State) : Word :=
  BitVec.ofNat 32 s.col.val ||| BitVec.ofNat 32 s.row.val <<< 2 ||| BitVec.ofNat 32 s.ledIdx.val <<< 4

/-- LEDPINS: pin `p` in bits `[2p+1:2p]` (10_state.md R42, number 0x05). -/
def ledpinsWord (s : State) : Word :=
  fieldAt 0 (pinCode s.ledPin[0]) ||| fieldAt 2 (pinCode s.ledPin[1]) ||| fieldAt 4 (pinCode s.ledPin[2])
    ||| fieldAt 6 (pinCode s.ledPin[3]) ||| fieldAt 8 (pinCode s.ledPin[4]) ||| fieldAt 10 (pinCode s.ledPin[5])

/-- NVCUR (10_state.md R42, number 0x0E). -/
def nvcurWord (s : State) : Word :=
  fieldAt 0 s.curIdx ||| fieldAt 8 s.curSeq ||| fieldAt 16 s.curPay

/-- The value of register `reg`, laid out as 10_state.md R42 says; none for a number that is not listed. -/
def readRegister (s : State) (reg : BitVec 8) : Option Word :=
  match reg.toNat with
  | 0x00 => some (fieldAt 0 s.mask)
  | 0x01 => some (fieldAt 0 s.sound)
  | 0x02 => some (scanposWord s)
  | 0x03 => some (fieldAt 0 s.pressed)
  | 0x04 => some (flagsWord s)
  | 0x05 => some (ledpinsWord s)
  | 0x06 => some (fieldAt 0 s.dacCode)
  | 0x07 => some (fieldAt 0 s.prevEmit)
  | 0x08 => some (fieldAt 0 s.prevAcc)
  | 0x09 => some s.filtAcc
  | 0x0A => some s.gateCnt
  | 0x0B => some (fieldAt 0 (timerCode s.gateSt))
  | 0x0C => some s.saveCnt
  | 0x0D => some (fieldAt 0 (timerCode s.saveSt))
  | 0x0E => some (nvcurWord s)
  | n => if 0x10 ≤ n then (s.hist[n - 0x10]?).map (fieldAt 0) else none

/-- RSP of BTNSTEP: `(edge << 16) or b` (42_panel_scanner.md R127). -/
def btnResponse (edge : Bool) (b : Fin 12) : Word := bitAt 16 edge ||| BitVec.ofNat 32 b.val

/-- RSP of LEDSTEP: `(colour << 4) or k` (42_panel_scanner.md R132). -/
def ledResponse (colour : BitVec 2) (k : Fin 12) : Word := fieldAt 4 colour ||| BitVec.ofNat 32 k.val

/-- RSP of PANSTEP: `(colour << 12) or (k << 8) or (edge << 16) or b` (42_panel_scanner.md R133). -/
def panResponse (edge : Bool) (b : Fin 12) (colour : BitVec 2) (k : Fin 12) : Word :=
  fieldAt 12 colour ||| BitVec.ofNat 32 k.val <<< 8 ||| bitAt 16 edge ||| BitVec.ofNat 32 b.val

/-- RSP of TICK (44_sample_pipeline.md R184): DACCODE and GATE as they stand after the tick, then what
happened in it. -/
def tickResponse (s : State) (begun ended elapsed : Bool) : Word :=
  bitAt 19 elapsed ||| bitAt 18 ended ||| bitAt 17 begun ||| bitAt 16 s.gate ||| fieldAt 0 s.dacCode

/-- RSP of FLUSH: bit 1, SAVEEL was 1 at entry; bit 0, a slot was written (30_encoding.md R86). -/
def flushResponse (elapsed written : Bool) : Word := bitAt 1 elapsed ||| bitAt 0 written

end Sys2Proof.Machine
end

