-- ==== Sys2Proof/Syntax.lean ====
section
/-! DEFINITION. The event set, version 1 (spec/30_encoding.md R82, spec/opcode_table.json): one constructor
per row of the opcode table, with the operands of R81 and R83. -/

namespace Sys2Proof

/-- The twelve events of 30_encoding.md R82, in the order of the opcode table. -/
inductive Instr where
  /-- NOP, format Z (45_system_commands.md R200). -/
  | nop
  /-- QUANT, format SM (41_quantizer.md R108). -/
  | quant (sample : Sample) (mask : NoteMask)
  /-- BTNSTEP, format L; `lvl`: the addressed button reads its active level (42_panel_scanner.md R127). -/
  | btnstep (lvl : Bool)
  /-- LEDSTEP, format Z (42_panel_scanner.md R132). -/
  | ledstep
  /-- PANSTEP, format L (42_panel_scanner.md R133). -/
  | panstep (lvl : Bool)
  /-- NVREAD, format Z (43_persistence_log.md R153). -/
  | nvread
  /-- NVWRITE, format M (43_persistence_log.md R157). -/
  | nvwrite (mask : NoteMask)
  /-- TICK, format ST; `gc`: a clock cable is present, `gt`: a rising trigger was detected
  (44_sample_pipeline.md R184). -/
  | tick (sample : Sample) (gc gt : Bool)
  /-- FLUSH, format Z (44_sample_pipeline.md R185). -/
  | flush
  /-- RDREG, format R (45_system_commands.md R201). -/
  | rdreg (reg : BitVec 8)
  /-- BOOT, format Z (45_system_commands.md R202). -/
  | boot
  /-- RESET, format Z (45_system_commands.md R203). -/
  | reset
  deriving DecidableEq, Repr

end Sys2Proof
end

