-- ==== Sys2Proof/Machine/Operands.lean ====
section
/-! DEFINITION. The operand ranges of spec/30_encoding.md R83 and the tables an operand indexes: `ADC_MAX`,
Pitch Table 1 (spec/41_quantizer.md R101) and the register numbers of spec/10_state.md R42. -/

namespace Sys2Proof.Machine

/-- `ADC_MAX = 2 ^ ADC_BITS - 1` (00_scope.md R8). -/
def adcMax (p : Config.Params) : Nat := 2 ^ p.adcBits - 1

/-- The operand `sample` is in the "fixed range" of an AnalogSample (30_encoding.md R83, R84 d). -/
def sampleInRange (p : Config.Params) (sample : Sample) : Bool := decide (sample.toNat ≤ adcMax p)

/-- `reg` is a number listed in 10_state.md R42: not 0x0F, not 0x1C to 0xFF. -/
def regListed (reg : BitVec 8) : Bool :=
  decide (reg.toNat ≤ 0x0E) || decide (0x10 ≤ reg.toNat) && decide (reg.toNat ≤ 0x1B)

/-- The entry of Pitch Table 1 for a code, where the table has one. -/
def pitchEntry (table : Config.PitchTable) (code : Nat) : Option (BitVec 16) :=
  match table with
  | .linear k => some (BitVec.ofNat 16 (k * code))
  | .entries values => values[code]?

/-- `PT1(code)`, a signed 16-bit SemitoneQ8 (41_quantizer.md R101). Outside `0 .. ADC_MAX` the table has no
entry: the free value `Config.offTable`, which no run reads. -/
def pt1 (p : Config.Params) (code : Nat) : Int :=
  if code ≤ adcMax p then ((pitchEntry p.pt1 code).getD (Config.offTable code)).toInt
  else (Config.offTable code).toInt

end Sys2Proof.Machine
end

