-- ==== Sys2Proof/WellFormed.lean ====
section
/-! DEFINITION. When an event's operands are in the ranges of spec/30_encoding.md R83; an event outside them
is refused (R84 c, d, e). R84 (f) is about the state, not about the word, and is not asked here. -/

namespace Sys2Proof

/-- The operand ranges of 30_encoding.md R83, for the parameters `p`. -/
def Instr.wellFormed (p : Config.Params) (i : Instr) : Bool :=
  match i with
  | .nop => true
  | .quant sample mask => mask != 0#12 && Machine.sampleInRange p sample
  | .btnstep _ => true
  | .ledstep => true
  | .panstep _ => true
  | .nvread => true
  | .nvwrite _ => true
  | .tick sample _ _ => Machine.sampleInRange p sample
  | .flush => true
  | .rdreg reg => Machine.regListed reg
  | .boot => true
  | .reset => true

end Sys2Proof
end

