-- ==== Sys2Proof/Decode.lean ====
section
/-! DEFINITION. The decoder (spec/30_encoding.md R80 to R85), total on every 32-bit word and rejecting by
name, and the encoder. The operand ranges of R83 are asked by the events' own meanings, as the events'
pseudocode does. -/

namespace Sys2Proof

/-- The six formats of 30_encoding.md R81. -/
inductive Format where
  | z | l | m | sm | st | r
  deriving DecidableEq, Repr

/-- The reserved bits of a format: every bit of `CMD[27:0]` that R81 gives the value 0. -/
def Format.reserved : Format → Word
  | .z => 0x0FFFFFFF#32
  | .l => 0x0FFFFFFE#32
  | .m => 0x0FFFF000#32
  | .sm => 0x00000000#32
  | .st => 0x00000FFC#32
  | .r => 0x0FFFFF00#32

/-- Why a word is no event of the set. -/
inductive DecodeError where
  /-- The opcode is 0x5, 0x6, 0x7 or 0xD (30_encoding.md R84 a). -/
  | reservedOpcode (op : Nat)
  /-- A reserved field of the format is not 0 (30_encoding.md R84 b). -/
  | reservedField
  deriving DecidableEq, Repr

/-- `op = CMD[31:28]` (30_encoding.md R80). -/
def opField (w : Word) : BitVec 4 := w.extractLsb' 28 4

/-- `sample = CMD[27:12]` (30_encoding.md R81). -/
def sampleField (w : Word) : Sample := w.extractLsb' 12 16

/-- `mask = CMD[11:0]` (30_encoding.md R81). -/
def maskField (w : Word) : NoteMask := w.extractLsb' 0 12

/-- `reg = CMD[7:0]` (30_encoding.md R81). -/
def regField (w : Word) : BitVec 8 := w.extractLsb' 0 8

/-- `lvl = CMD[0]` and `gt = CMD[0]` (30_encoding.md R81). -/
def bit0 (w : Word) : Bool := w.getLsbD 0

/-- `gc = CMD[1]` (30_encoding.md R81). -/
def bit1 (w : Word) : Bool := w.getLsbD 1

/-- The event `i` if the reserved bits of the format `f` are 0 in `w` (30_encoding.md R80, R84 b). -/
def withFormat (f : Format) (w : Word) (i : Instr) : Except DecodeError Instr :=
  if w &&& f.reserved = 0#32 then .ok i else .error .reservedField

/-- The decoder of 30_encoding.md R85: the opcode map of R82, then the reserved fields of R81. -/
def decode (w : Word) : Except DecodeError Instr :=
  match (opField w).toNat with
  | 0x0 => withFormat .z w .nop
  | 0x1 => withFormat .sm w (.quant (sampleField w) (maskField w))
  | 0x2 => withFormat .l w (.btnstep (bit0 w))
  | 0x3 => withFormat .z w .ledstep
  | 0x4 => withFormat .l w (.panstep (bit0 w))
  | 0x8 => withFormat .z w .nvread
  | 0x9 => withFormat .m w (.nvwrite (maskField w))
  | 0xA => withFormat .st w (.tick (sampleField w) (bit1 w) (bit0 w))
  | 0xB => withFormat .z w .flush
  | 0xC => withFormat .r w (.rdreg (regField w))
  | 0xE => withFormat .z w .boot
  | 0xF => withFormat .z w .reset
  | op => .error (.reservedOpcode op)

/-- The word of an event (30_encoding.md R81, R82): the opcode in `CMD[31:28]`, the operands at their places,
zeros in the reserved fields. -/
def encode (i : Instr) : Word :=
  match i with
  | .nop => 0x00000000#32
  | .quant sample mask => 0x10000000#32 ||| sample.setWidth 32 <<< 12 ||| mask.setWidth 32
  | .btnstep lvl => 0x20000000#32 ||| (BitVec.ofBool lvl).setWidth 32
  | .ledstep => 0x30000000#32
  | .panstep lvl => 0x40000000#32 ||| (BitVec.ofBool lvl).setWidth 32
  | .nvread => 0x80000000#32
  | .nvwrite mask => 0x90000000#32 ||| mask.setWidth 32
  | .tick sample gc gt => 0xA0000000#32 ||| sample.setWidth 32 <<< 12 |||
      (BitVec.ofBool gc).setWidth 32 <<< 1 ||| (BitVec.ofBool gt).setWidth 32
  | .flush => 0xB0000000#32
  | .rdreg reg => 0xC0000000#32 ||| reg.setWidth 32
  | .boot => 0xE0000000#32
  | .reset => 0xF0000000#32

/-- The decoder on an instruction of `nbits` table bits: bits above `nbits` are 0. An event word is one
32-bit value with no byte order (20_memory.md R64). -/
def decodeTableWord (nbits w : Nat) : Option Instr :=
  (decode (BitVec.ofNat 32 (w % 2 ^ nbits))).toOption

/-- A row of spec/opcode_table.json: `w` is the row's word exactly when `w &&& mask = pattern`. -/
structure OpcodeRow where
  mnemonic : String
  pattern : Word
  mask : Word
  deriving DecidableEq, Repr

/-- spec/opcode_table.json: the columns "match" and "mask", row by row. -/
def opcodeTable : List OpcodeRow :=
  [⟨"NOP", 0x00000000#32, 0xFFFFFFFF#32⟩, ⟨"QUANT", 0x10000000#32, 0xF0000000#32⟩,
   ⟨"BTNSTEP", 0x20000000#32, 0xFFFFFFFE#32⟩, ⟨"LEDSTEP", 0x30000000#32, 0xFFFFFFFF#32⟩,
   ⟨"PANSTEP", 0x40000000#32, 0xFFFFFFFE#32⟩, ⟨"NVREAD", 0x80000000#32, 0xFFFFFFFF#32⟩,
   ⟨"NVWRITE", 0x90000000#32, 0xFFFFF000#32⟩, ⟨"TICK", 0xA0000000#32, 0xF0000FFC#32⟩,
   ⟨"FLUSH", 0xB0000000#32, 0xFFFFFFFF#32⟩, ⟨"RDREG", 0xC0000000#32, 0xFFFFFF00#32⟩,
   ⟨"BOOT", 0xE0000000#32, 0xFFFFFFFF#32⟩, ⟨"RESET", 0xF0000000#32, 0xFFFFFFFF#32⟩]

/-- The mnemonic of an event, as the opcode table spells it. -/
def Instr.mnemonic : Instr → String
  | .nop => "NOP"
  | .quant _ _ => "QUANT"
  | .btnstep _ => "BTNSTEP"
  | .ledstep => "LEDSTEP"
  | .panstep _ => "PANSTEP"
  | .nvread => "NVREAD"
  | .nvwrite _ => "NVWRITE"
  | .tick _ _ _ => "TICK"
  | .flush => "FLUSH"
  | .rdreg _ => "RDREG"
  | .boot => "BOOT"
  | .reset => "RESET"

end Sys2Proof
end

