-- ==== Sys2Proof/Machine/Ops.lean ====
section
/-! DEFINITION. The named operations the events share: the answer of an event, the non-volatile medium and
its log (spec/20_memory.md, spec/43_persistence_log.md), the timers (spec/44_sample_pipeline.md R180, R181),
and reset and loss of power, the block's only "entry" from outside (spec/60_exceptions.md R220,
spec/70_reset_and_hazards.md R230). -/

namespace Sys2Proof.Machine

/-- The event answers `r` (30_encoding.md R80). -/
def answer (r : Word) (s : State) : State := { s with rsp := some r }

/-! ### The medium: one byte at a time (20_memory.md R65) -/

/-- The byte at NV address `a` of the medium; an unlisted address reads the erased byte. -/
def memRead (erased : Byte) (nv : Memory) (a : Nat) : Byte :=
  match nv with
  | [] => erased
  | (b, v) :: rest => if a = b then v else memRead erased rest a

/-- The entry `(a, v)` in its place by address, instead of the entry there, if there is one. -/
def memPut (nv : Memory) (a : Nat) (v : Byte) : Memory :=
  match nv with
  | [] => [(a, v)]
  | (b, u) :: rest =>
    if a < b then (a, v) :: (b, u) :: rest
    else if a = b then (a, v) :: rest
    else (b, u) :: memPut rest a v

/-- The medium with the byte `v` at NV address `a`: the erased byte is kept by listing nothing, so that the
canonical form is kept. -/
def memWrite (erased : Byte) (nv : Memory) (a : Nat) (v : Byte) : Memory :=
  if v = erased then nv.filter (fun c => c.1 != a) else memPut nv a v

/-- `MemRead(a, 1)`, abbreviated `NV[a]` (00_scope.md section 4). -/
def nvByte (s : State) (a : Nat) : Byte := memRead s.params.nvErased s.nv a

/-- `MemWrite(a, 1, v)` (00_scope.md section 4). -/
def nvStore (s : State) (a : Nat) (v : Byte) : State :=
  { s with nv := memWrite s.params.nvErased s.nv a v }

/-- The byte writes of a list, in its order. -/
def nvStoreAll (s : State) (writes : List (Nat × Byte)) : State :=
  writes.foldl (fun t w => nvStore t w.1 w.2) s

/-! ### Slots (20_memory.md R61 to R63) -/

/-- NV address of byte `f` of slot `k`: 0 PAYLO, 1 PAYHI, 2 SEQ. -/
def slotAddr (k f : Nat) : Nat := Config.nvBase + Config.slotBytes * k + f

/-- `seq(k) = NV[3*k + 2]`. -/
def slotSeq (s : State) (k : Nat) : BitVec 8 := nvByte s (slotAddr k 2)

/-- The payload of slot `k`, `({NV[3*k+1], NV[3*k]})[11:0]`: the pad bits are dropped. -/
def slotPayload (s : State) (k : Nat) : NoteMask :=
  (nvByte s (slotAddr k 1) ++ nvByte s (slotAddr k 0)).extractLsb' 0 12

/-! ### Recovery (43_persistence_log.md R151) -/

/-- The walk from slot `k`, at most `fuel` advances: go on while the next slot continues the run. -/
def walk (s : State) (fuel k : Nat) : Nat :=
  match fuel with
  | 0 => k
  | n + 1 => if slotSeq s (k + 1) = slotSeq s k + 1#8 then walk s n (k + 1) else k

/-- The index of the current slot: the walk from slot 0 stops at slot `RING_N - 1` at the latest. -/
def currentSlot (s : State) : Nat := walk s (Config.ringN - 1) 0

/-- `ReadMask()`: recovery into CURIDX, CURSEQ, CURPAY, NVVALID (43_persistence_log.md R151, R153). -/
def recover (s : State) : State :=
  { s with
    curIdx := BitVec.ofNat 7 (currentSlot s)
    curSeq := slotSeq s (currentSlot s)
    curPay := slotPayload s (currentSlot s)
    nvValid := true }

/-! ### The write path (43_persistence_log.md R154, R155) -/

/-- The index `k'` of the slot after the current one, mod 128. -/
def nextSlot (s : State) : BitVec 7 := s.curIdx + 1#7

/-- The three byte writes of a slot write in their order, SEQ last (20_memory.md R66). -/
def slotWrites (s : State) (mask : NoteMask) : List (Nat × Byte) :=
  [(slotAddr (nextSlot s).toNat 0, mask.extractLsb' 0 8),
   (slotAddr (nextSlot s).toNat 1, 0#4 ++ mask.extractLsb' 8 4),
   (slotAddr (nextSlot s).toNat 2, s.curSeq + 1#8)]

/-- The write of `WriteMask` when it is not suppressed: the three bytes, then the new slot is current. -/
def appendSlot (mask : NoteMask) (s : State) : State :=
  { nvStoreAll s (slotWrites s mask) with
    curIdx := nextSlot s
    curSeq := s.curSeq + 1#8
    curPay := mask }

/-- Whether `WriteMask(mask)` writes a slot: not when the payload is unchanged (R154). -/
def writeNeeded (mask : NoteMask) (s : State) : Bool := mask != s.curPay

/-- `WriteMask(mask)` (43_persistence_log.md R155). -/
def writeMask (mask : NoteMask) (s : State) : State :=
  if writeNeeded mask s then appendSlot mask s else s

/-! ### The timers (44_sample_pipeline.md R180, R181) -/

/-- What `Tick()` leaves of a timer, and whether it expired in this call. -/
structure Ticked where
  cnt : BitVec 32
  st : TimerState
  expired : Bool
  deriving DecidableEq, Repr

/-- `Tick(CNT, ST)` (44_sample_pipeline.md R181). -/
def tickTimer (cnt : BitVec 32) (st : TimerState) : Ticked :=
  match st with
  | .running => if cnt - 1#32 = 0#32 then ⟨cnt - 1#32, .expired, true⟩ else ⟨cnt - 1#32, .running, false⟩
  | .expired => ⟨cnt, .idle, false⟩
  | .idle => ⟨cnt, .idle, false⟩

/-! ### Reset and loss of power -/

/-- Every volatile register takes its reset value; NV, the parameters and what is still to be delivered
stay (70_reset_and_hazards.md R231, R232). The one shared operation behind RESET, the reset input and
POWERFAIL (R230). -/
def clearVolatile (s : State) : State :=
  { State.powerOn s.params s.nv with inbox := s.inbox }

/-- The mask the event `i` would write to the medium in the state `s`, if it would write any slot. -/
def pendingWrite (i : Instr) (s : State) : Option NoteMask :=
  match i with
  | .nvwrite mask => if s.nvValid && writeNeeded mask s then some mask else none
  | .flush => if s.nvValid && s.saveEl && writeNeeded s.mask s then some s.mask else none
  | _ => none

/-- The writes that reach the medium when power fails after `j` of them: the first `j`, and `g` in the next
byte, if there is a next byte and `g` is a value (60_exceptions.md R220). -/
def tornWrites (writes : List (Nat × Byte)) (j : Nat) (g : Option Byte) : List (Nat × Byte) :=
  writes.take j ++
    match writes[j]?, g with
    | some (a, _), some v => [(a, v)]
    | _, _ => []

/-- `POWERFAIL(j, g)` in place of the write of `mask` (60_exceptions.md R220). -/
def tornWrite (mask : NoteMask) (j : Fin 4) (g : Option Byte) (s : State) : State :=
  clearVolatile (nvStoreAll s (tornWrites (slotWrites s mask) j.val g))

/-- Power fails in place of the event word `cmd` (60_exceptions.md R220): in place of a word that writes no
NV byte, the medium is unchanged. -/
def powerFailInPlaceOf (cmd : Word) (j : Fin 4) (g : Option Byte) (s : State) : State :=
  match decode cmd with
  | .ok i =>
    match pendingWrite i s with
    | some mask => tornWrite mask j g s
    | none => clearVolatile s
  | .error _ => clearVolatile s

/-! ### Delivery of a stimulus -/

/-- The next stimulus of the environment, and the state in which it arrives (20_memory.md R69). -/
def takeStimulus (s : State) : Option (Stimulus × State) :=
  match s.inbox with
  | [] => none
  | x :: rest => some (x, { s with inbox := rest })

/-- The environment delivers the event word `cmd` next. -/
def deliver (cmd : Word) (s : State) : State := { s with inbox := .event cmd :: s.inbox }

/-- The refusal of a word that is no event of the set (30_encoding.md R84 a, b). -/
def decodeRefusal (e : DecodeError) : Refusal :=
  match e with
  | .reservedOpcode op => .reservedOpcode op
  | .reservedField => .reservedField

/-- What the hardware does with a refused event: it "changes no state, touches no output and no `NV` byte,
and answers `RSP = 0x00000000`" (30_encoding.md R84). -/
def answerRefused (s : State) : State :=
  match takeStimulus s with
  | some (_, t) => answer 0#32 t
  | none => s

end Sys2Proof.Machine
end

