-- ==== Sys2Proof/Machine/Log.lean ====
section
/-! DEFINITION. The events NVREAD and NVWRITE of the Persistence Log (spec/43_persistence_log.md). -/

namespace Sys2Proof.Machine

/-- NVREAD (43_persistence_log.md R153): recovery into the log registers; MASK is not written. -/
def execNvread (s : State) : Host.Outcome State Fault Refusal :=
  .next (answer (fieldAt 0 (recover s).curPay) (recover s))

/-- NVWRITE (43_persistence_log.md R157): refused while `NVVALID = 0`, suppressed on an unchanged payload. -/
def execNvwrite (mask : NoteMask) (s : State) : Host.Outcome State Fault Refusal :=
  if s.nvValid then .next (answer (bitAt 0 (writeNeeded mask s)) (writeMask mask s))
  else .refused .logNotRecovered

end Sys2Proof.Machine
end

