-- ==== Sys2Proof/Machine/Panel.lean ====
section
/-! DEFINITION. The Panel Scanner unit and the events BTNSTEP, LEDSTEP, PANSTEP (spec/42_panel_scanner.md). -/

namespace Sys2Proof.Machine

/-- `b = ROW*4 + COL`, the button a step samples (42_panel_scanner.md R121). -/
def buttonIndex (row : Fin 3) (col : Fin 4) : Fin 12 :=
  ⟨row.val * 4 + col.val, by have := row.isLt; have := col.isLt; omega⟩

/-- The next scan position (42_panel_scanner.md R122). -/
def advanceScan (row : Fin 3) (col : Fin 4) : Fin 3 × Fin 4 :=
  if col = 3 then (if row = 2 then 0 else row + 1, 0) else (row, col + 1)

/-- `FULL = 2^W - 1` (42_panel_scanner.md R123). -/
def fullWindow (w : Nat) : BitVec 8 := BitVec.ofNat 8 (2 ^ w - 1)

/-- The debounce shift: the new level in bit 0, cut to the window (42_panel_scanner.md R123). -/
def shiftHistory (w : Nat) (hist : BitVec 8) (lvl : Bool) : BitVec 8 :=
  (hist <<< 1 ||| (BitVec.ofBool lvl).setWidth 8) &&& fullWindow w

/-- One button's debounce after a step: its history, its pressed bit, and whether a ButtonEdge came. -/
structure Debounced where
  hist : BitVec 8
  pressed : Bool
  edge : Bool
  deriving DecidableEq, Repr

/-- The debounce of one button (42_panel_scanner.md R123 to R125): press on a full window, release on an
empty one, and no change between. -/
def debounce (w : Nat) (hist : BitVec 8) (pressed lvl : Bool) : Debounced :=
  let h := shiftHistory w hist lvl
  if h = fullWindow w ∧ pressed = false then ⟨h, true, true⟩
  else if h = 0#8 then ⟨h, false, false⟩
  else ⟨h, pressed, false⟩

/-- `1 << b` (42_panel_scanner.md R126). -/
def noteBit (b : Fin 12) : BitVec 12 := 1#12 <<< b.val

/-- The 12-bit register `v` with bit `b` made `x`. -/
def putBit (v : BitVec 12) (b : Fin 12) (x : Bool) : BitVec 12 :=
  if x then v ||| noteBit b else v &&& ~~~ noteBit b

/-- The debounce of the button at ROW, COL in the state `s`. -/
def buttonDebounce (lvl : Bool) (s : State) : Debounced :=
  debounce s.params.debounceW s.hist[buttonIndex s.row s.col]
    (s.pressed.getLsbD (buttonIndex s.row s.col)) lvl

/-- The button step without its answer (42_panel_scanner.md R127): the debounce, the reaction to an edge
(R126), and the advance (R122). -/
def buttonStep (lvl : Bool) (s : State) : State :=
  let b := buttonIndex s.row s.col
  let d := buttonDebounce lvl s
  { s with
    hist := s.hist.set b d.hist
    pressed := putBit s.pressed b d.pressed
    mask := if d.edge then s.mask ^^^ noteBit b else s.mask
    touch := s.touch || d.edge
    row := (advanceScan s.row s.col).1
    col := (advanceScan s.row s.col).2 }

/-- All six pins at high impedance (42_panel_scanner.md R130). -/
def blankPins (s : State) : State := { s with ledPin := Vector.replicate 6 .z }

/-- The colour an LED step shows on LED `k`: 1 sounding, 2 enabled, 0 none (42_panel_scanner.md R129). -/
def ledColour (s : State) (k : Fin 12) : BitVec 2 :=
  if s.sound = BitVec.ofNat 4 k.val then 1#2 else if s.mask.getLsbD k then 2#2 else 0#2

/-- The pins that show a colour on the LED between the pins `A` and `B` (42_panel_scanner.md R128). -/
def drivePins (pair : Fin 6 × Fin 6) (colour : BitVec 2) : Vector Pin 6 :=
  let off := Vector.replicate 6 Pin.z
  if colour = 1#2 then (off.set pair.1 .h).set pair.2 .l
  else if colour = 2#2 then (off.set pair.1 .l).set pair.2 .h
  else off

/-- `(k + 1) mod 12` (42_panel_scanner.md R131). -/
def advanceLed (k : Fin 12) : Fin 12 := if k = 11 then 0 else k + 1

/-- The LED step without its answer (42_panel_scanner.md R132). -/
def ledShow (s : State) : State :=
  { blankPins s with
    ledPin := drivePins s.params.ledPins[s.ledIdx] (ledColour s s.ledIdx)
    ledIdx := advanceLed s.ledIdx }

/-- BTNSTEP (42_panel_scanner.md R127). -/
def execBtnstep (lvl : Bool) (s : State) : Host.Outcome State Fault Refusal :=
  .next (answer (btnResponse (buttonDebounce lvl s).edge (buttonIndex s.row s.col)) (buttonStep lvl s))

/-- LEDSTEP (42_panel_scanner.md R132). -/
def execLedstep (s : State) : Host.Outcome State Fault Refusal :=
  .next (answer (ledResponse (ledColour s s.ledIdx) s.ledIdx) (ledShow s))

/-- PANSTEP (42_panel_scanner.md R133): the LEDs off, the button step, then the LED step, which sees a mask
bit toggled by this event. -/
def execPanstep (lvl : Bool) (s : State) : Host.Outcome State Fault Refusal :=
  let t := buttonStep lvl (blankPins s)
  .next (answer (panResponse (buttonDebounce lvl (blankPins s)).edge (buttonIndex s.row s.col)
    (ledColour t t.ledIdx) t.ledIdx) (ledShow t))

end Sys2Proof.Machine
end

