-- ==== Sys2Proof/Machine/Quantizer.lean ====
section
/-! DEFINITION. The Quantizer unit and the event QUANT (spec/41_quantizer.md). Integers are mathematical,
as R110 says: there is no overflow in the Quantizer. -/

namespace Sys2Proof.Machine

/-- `floordiv(n, 12)` (41_quantizer.md R102): Lean's `/` on integers is the floor for a positive divisor. -/
def octaveOf (n : Int) : Int := n / 12

/-- `Note(n) = n mod 12`, 0 to 11 for negative `n` too (41_quantizer.md R102). -/
def noteOf (n : Int) : Int := n % 12

/-- `s >> 8`, the arithmetic shift: the whole semitone below or at `s` (41_quantizer.md R102). -/
def floorSemitone (s : Int) : Int := s / Config.semitone

/-- The distance of note `i` from `s`, in octave `o`, folded into (-6, +6] semitones
(41_quantizer.md R103, R104). -/
def foldedDistance (s o : Int) (i : Nat) : Int :=
  let d := (12 * o + i) * Config.semitone - s
  if d > Config.halfOctave then d - Config.octave
  else if d ≤ -Config.halfOctave then d + Config.octave
  else d

/-- The selection of 41_quantizer.md R105 over the notes of a list, in its order: `best` is the distance
kept so far, replaced only by a strictly nearer one. -/
def selectNearest (mask : NoteMask) (s o : Int) (best : Option Int) (notes : List Nat) : Option Int :=
  match notes with
  | [] => best
  | i :: rest =>
    let d := foldedDistance s o i
    let keep := match best with
      | none => some d
      | some b => if d.natAbs < b.natAbs then some d else some b
    selectNearest mask s o (if mask.getLsbD i then keep else best) rest

/-- `QuantizeQ8(mask, s)` (41_quantizer.md R107). It has no value on an empty mask (R109). -/
def quantizeQ8 (mask : NoteMask) (s : Int) : Option Int :=
  (selectNearest mask s (octaveOf (floorSemitone s)) none (List.range Config.notes)).map
    fun d => floorSemitone (s + d)

/-- `Quantize(mask, sample)` (41_quantizer.md R107), a function of the parameters' Pitch Table 1. -/
def quantize (p : Config.Params) (mask : NoteMask) (sample : Nat) : Option Int :=
  quantizeQ8 mask (pt1 p sample)

/-- QUANT (41_quantizer.md R108): refused on an empty mask or a sample above ADC_MAX; writes no state. -/
def execQuant (sample : Sample) (mask : NoteMask) (s : State) : Host.Outcome State Fault Refusal :=
  if mask = 0#12 then .refused .emptyMask
  else if sampleInRange s.params sample then
    match quantize s.params mask sample.toNat with
    | some pitch => .next (answer ((tc16 pitch).setWidth 32) s)
    | none => .refused .emptyMask
  else .refused .sampleOutOfRange

end Sys2Proof.Machine
end

