-- ==== Sys2Proof/Machine/Pipeline.lean ====
section
/-! DEFINITION. The Sample Pipeline unit and the events TICK and FLUSH (spec/44_sample_pipeline.md). -/

namespace Sys2Proof.Machine

/-- Step 2, the accumulator: `FILTACC - (FILTACC >> K) + x` (44_sample_pipeline.md R172). -/
def filterNext (k : Nat) (acc : BitVec 32) (x : Sample) : BitVec 32 :=
  BitVec.ofNat 32 (acc.toNat - acc.toNat / 2 ^ k + x.toNat)

/-- Step 2, the filtered sample: `FILTACC >> K` (44_sample_pipeline.md R172). -/
def filtered (s : State) : Nat := s.filtAcc.toNat / 2 ^ s.params.filterK

/-- Steps 1 and 2 (44_sample_pipeline.md R171, R172). -/
def tickFilter (x : Sample) (s : State) : State :=
  { s with filtAcc := filterNext s.params.filterK s.filtAcc x }

/-- Step 3 (44_sample_pipeline.md R173): a pending touch restarts the autosave timer. -/
def tickPoll (s : State) : State :=
  if s.touch then
    { s with touch := false, saveCnt := s.params.autosaveTicks, saveSt := .running, saveEl := false }
  else s

/-- Step 4 (44_sample_pipeline.md R175): the previous emitted pitch becomes NONE. -/
def tickSilence (s : State) : State :=
  { s with emitValid := false, prevEmit := 0#16, sound := 0xF#4 }

/-- `abs(f - PREVACC) < DEADBAND` (44_sample_pipeline.md R176). -/
def inDeadband (f : Nat) (s : State) : Bool :=
  decide (((f : Int) - (s.prevAcc.toNat : Int)).natAbs < s.params.deadband)

/-- Step 5, the code given to the Quantizer (44_sample_pipeline.md R176). -/
def acceptedCode (f : Nat) (s : State) : Nat := if inDeadband f s then s.prevAcc.toNat else f

/-- Step 5, the deadband memory (44_sample_pipeline.md R176). -/
def tickAccept (f : Nat) (s : State) : State :=
  if inDeadband f s then s else { s with prevAcc := BitVec.ofNat 16 f }

/-- `EMITVALID = 0 or p != PREVEMIT` (44_sample_pipeline.md R178). -/
def pitchIsNew (p : Int) (s : State) : Bool := !s.emitValid || decide (p ≠ s.prevEmit.toInt)

/-- Step 6 when the pitch is new: `BeginOutput(2*p)`, the gate timer started, the previous emitted pitch and
the sounding note (44_sample_pipeline.md R178, R179, R188). -/
def emitPitch (p : Int) (s : State) : State :=
  { s with
    dacCode := BitVec.ofInt 16 (Config.dacPerSemi * p)
    gate := true
    gateCnt := s.params.gateTicks
    gateSt := .running
    prevEmit := BitVec.ofInt 16 p
    emitValid := true
    sound := BitVec.ofInt 4 (noteOf p) }

/-- Steps 5 and 6 for the filtered sample `f`, and whether `BeginOutput` happened. The mask is not empty
here, so the Quantizer has a value (41_quantizer.md R109). -/
def tickQuantize (f : Nat) (s : State) : State × Bool :=
  match quantize s.params s.mask (acceptedCode f s) with
  | some p => if pitchIsNew p s then (emitPitch p (tickAccept f s), true) else (tickAccept f s, false)
  | none => (tickAccept f s, false)

/-- `run = (gc = 0) or (gt = 1)` (44_sample_pipeline.md R174). -/
def running (gc gt : Bool) : Bool := !gc || gt

/-- Steps 4 to 6 (44_sample_pipeline.md R174 to R178), and whether `BeginOutput` happened. -/
def tickPitch (f : Nat) (gc gt : Bool) (s : State) : State × Bool :=
  if s.mask = 0#12 then (tickSilence s, false)
  else if running gc gt then tickQuantize f s
  else (s, false)

/-- Step 7 (44_sample_pipeline.md R182): the gate timer; its expiry is `FinishOutput`. -/
def tickGate (s : State) : State :=
  let t := tickTimer s.gateCnt s.gateSt
  { s with gateCnt := t.cnt, gateSt := t.st, gate := s.gate && !t.expired }

/-- Whether the gate pulse ends in step 7. -/
def gateEnds (s : State) : Bool := (tickTimer s.gateCnt s.gateSt).expired

/-- Step 8 (44_sample_pipeline.md R183): the autosave timer; its expiry sets SAVEEL. -/
def tickSave (s : State) : State :=
  let t := tickTimer s.saveCnt s.saveSt
  { s with saveCnt := t.cnt, saveSt := t.st, saveEl := s.saveEl || t.expired }

/-- Whether the autosave timer expires in step 8. -/
def saveElapses (s : State) : Bool := (tickTimer s.saveCnt s.saveSt).expired

/-- Steps 1 to 6 of TICK (44_sample_pipeline.md R171 to R178), and whether `BeginOutput` happened. -/
def tickFront (sample : Sample) (gc gt : Bool) (s : State) : State × Bool :=
  let t := tickPoll (tickFilter sample s)
  tickPitch (filtered t) gc gt t

/-- The whole tick without its answer (44_sample_pipeline.md R184). -/
def tickState (sample : Sample) (gc gt : Bool) (s : State) : State :=
  tickSave (tickGate (tickFront sample gc gt s).1)

/-- TICK (44_sample_pipeline.md R184): refused on a sample above ADC_MAX. -/
def execTick (sample : Sample) (gc gt : Bool) (s : State) : Host.Outcome State Fault Refusal :=
  if sampleInRange s.params sample then
    .next (answer (tickResponse (tickState sample gc gt s) (tickFront sample gc gt s).2
      (gateEnds (tickFront sample gc gt s).1) (saveElapses (tickGate (tickFront sample gc gt s).1)))
      (tickState sample gc gt s))
  else .refused .sampleOutOfRange

/-- FLUSH (44_sample_pipeline.md R185): refused while `NVVALID = 0`; with SAVEEL set, one write of the
current mask and the flag cleared, in one event. -/
def execFlush (s : State) : Host.Outcome State Fault Refusal :=
  if s.nvValid then
    if s.saveEl then
      .next (answer (flushResponse true (writeNeeded s.mask s)) { writeMask s.mask s with saveEl := false })
    else .next (answer (flushResponse false false) s)
  else .refused .logNotRecovered

end Sys2Proof.Machine
end

