-- ==== Sys2Proof/Machine/System.lean ====
section
/-! DEFINITION. The system events NOP, RDREG, BOOT and RESET (spec/45_system_commands.md). -/

namespace Sys2Proof.Machine

/-- NOP (45_system_commands.md R200): no state read or written, `RSP = 0`. -/
def execNop (s : State) : Host.Outcome State Fault Refusal := .next (answer 0#32 s)

/-- RDREG (45_system_commands.md R201): one register, no side effect; refused for a number that is not
listed. -/
def execRdreg (reg : BitVec 8) (s : State) : Host.Outcome State Fault Refusal :=
  match readRegister s reg with
  | some v => .next (answer v s)
  | none => .refused (.noSuchRegister reg)

/-- BOOT (45_system_commands.md R202): recovery, then the load of MASK. -/
def execBoot (s : State) : Host.Outcome State Fault Refusal :=
  .next (answer (fieldAt 0 (recover s).curPay) { recover s with mask := (recover s).curPay })

/-- RESET (45_system_commands.md R203): every volatile register to its reset value, NV untouched. -/
def execReset (s : State) : Host.Outcome State Fault Refusal := .next (answer 0#32 (clearVolatile s))

end Sys2Proof.Machine
end

