-- ==== Sys2Proof/Machine/Dispatch.lean ====
section
/-! DEFINITION. One arm per event of the opcode table (spec/30_encoding.md R82). -/

namespace Sys2Proof.Machine

def exec (i : Instr) (s : State) : Host.Outcome State Fault Refusal :=
  match i with
  | .nop => Sys2Proof.Machine.execNop s
  | .quant sample mask => Sys2Proof.Machine.execQuant sample mask s
  | .btnstep lvl => Sys2Proof.Machine.execBtnstep lvl s
  | .ledstep => Sys2Proof.Machine.execLedstep s
  | .panstep lvl => Sys2Proof.Machine.execPanstep lvl s
  | .nvread => Sys2Proof.Machine.execNvread s
  | .nvwrite mask => Sys2Proof.Machine.execNvwrite mask s
  | .tick sample gc gt => Sys2Proof.Machine.execTick sample gc gt s
  | .flush => Sys2Proof.Machine.execFlush s
  | .rdreg reg => Sys2Proof.Machine.execRdreg reg s
  | .boot => Sys2Proof.Machine.execBoot s
  | .reset => Sys2Proof.Machine.execReset s

end Sys2Proof.Machine
end

