-- ==== Sys2Proof/Machine/Step.lean ====
section
/-! DEFINITION. One step: the next stimulus of the environment, executed to completion
(spec/00_scope.md R10, spec/20_memory.md R69). -/

namespace Sys2Proof.Machine

/-- One step of the block. With nothing to deliver it holds its state and its outputs
(60_exceptions.md R225). -/
def step (s : State) : Host.Outcome State Fault Refusal :=
  match takeStimulus s with
  | none => .next s
  | some (.event cmd, t) =>
    match decode cmd with
    | .ok i => exec i t
    | .error e => .refused (decodeRefusal e)
  | some (.resetInput, t) => .next (clearVolatile t)
  | some (.powerFail, t) => .next (clearVolatile t)
  | some (.powerFailDuring cmd j g, t) => .next (powerFailInPlaceOf cmd j g t)

/-- The event word `w` is the next thing the environment delivers. -/
def State.withFetchWord (s : State) (nbits w : Nat) : State :=
  deliver (BitVec.ofNat 32 (w % 2 ^ nbits)) s

end Sys2Proof.Machine
end

