-- ==== Sys2Proof/Machine/Hardware.lean ====
section
/-! DEFINITION. What the hardware does with a refused event, beside `step`, which gives it no meaning
(spec/30_encoding.md R84, spec/60_exceptions.md R212; notes/assumptions/4.md). -/

namespace Sys2Proof.Machine

/-- The hardware's total behaviour: as `step`, and a refused event "changes no state, touches no output and
no `NV` byte, and answers `RSP = 0x00000000`" (30_encoding.md R84). "A later version of the event set may
define" the refused words (93_implementation_defined.md U7), so a claim about a stream is made of `step`. -/
def hardwareStep (s : State) : State :=
  match step s with
  | .next t => t
  | .fault r => nomatch r
  | .refused _ => answerRefused s

end Sys2Proof.Machine
end

