-- ==== Sys2Proof/Safety.lean ====
section
/-! DEFINITION. What the claims speak of: legal parameters (spec/00_scope.md R8, R9), which events are
refused (spec/30_encoding.md R84), the invariants of the block (spec/10_state.md R44), the health of the log
(spec/43_persistence_log.md R160, R161) and runs of events. -/

namespace Sys2Proof.Safety

open Sys2Proof.Machine

/-- The legal ranges of 00_scope.md R8 and the constraints of R9. -/
structure Legal (p : Config.Params) : Prop where
  /-- ADC_BITS is 1 to 16. -/
  adcBits : 1 ≤ p.adcBits ∧ p.adcBits ≤ 16
  /-- PT1 is total on `0 .. ADC_MAX`. -/
  tableTotal : ∀ code, code ≤ adcMax p → (pitchEntry p.pt1 code).isSome
  /-- A table of the form `k * code` stays a signed 16-bit value. -/
  tableFits : ∀ k, p.pt1 = .linear k → k * adcMax p < 2 ^ 15
  /-- PT1 is non-decreasing. -/
  tableRises : ∀ a b, a ≤ b → b ≤ adcMax p → pt1 p a ≤ pt1 p b
  /-- DEBOUNCE_W is 2 to 8. -/
  window : 2 ≤ p.debounceW ∧ p.debounceW ≤ 8
  /-- FILTER_K is 0 to 16, and ADC_BITS + FILTER_K at most 32. -/
  filter : p.filterK ≤ 16 ∧ p.adcBits + p.filterK ≤ 32
  /-- DEADBAND is 0 to ADC_MAX. -/
  deadband : p.deadband ≤ adcMax p
  /-- GATE_TICKS is at least 1. -/
  gateTicks : 1 ≤ p.gateTicks.toNat
  /-- AUTOSAVE_TICKS is at least 1. -/
  autosaveTicks : 1 ≤ p.autosaveTicks.toNat
  /-- Each LED sits between two different pins. -/
  pinsDiffer : ∀ k : Fin 12, (p.ledPins[k]).1 ≠ (p.ledPins[k]).2
  /-- No two LEDs share an unordered pin pair. -/
  pairsDiffer : ∀ k j : Fin 12, k ≠ j → p.ledPins[k] ≠ p.ledPins[j] ∧ p.ledPins[k] ≠ (p.ledPins[j]).swap

/-- The conditions (c) to (f) of 30_encoding.md R84, for an event that decodes. -/
def Refused (i : Instr) (s : State) : Prop :=
  match i with
  | .quant sample mask => mask = 0#12 ∨ adcMax s.params < sample.toNat
  | .tick sample _ _ => adcMax s.params < sample.toNat
  | .rdreg reg => reg.toNat = 0x0F ∨ 0x1C ≤ reg.toNat
  | .nvwrite _ => s.nvValid = false
  | .flush => s.nvValid = false
  | .nop => False
  | .btnstep _ => False
  | .ledstep => False
  | .panstep _ => False
  | .nvread => False
  | .boot => False
  | .reset => False

/-- Events one after another, each to completion (20_memory.md R69), stopping at the first that is refused. -/
def execAll (events : List Instr) (s : State) : Host.Outcome State Fault Refusal :=
  match events with
  | [] => .next s
  | i :: rest =>
    match exec i s with
    | .next t => execAll rest t
    | .fault r => .fault r
    | .refused r => .refused r

/-- Every byte of the medium reads as before. -/
def SameMedium (s t : State) : Prop := ∀ a, nvByte t a = nvByte s a

/-- The pins light one LED of the table, in one of the two colours, or none (42_panel_scanner.md R134). -/
def OneLed (p : Config.Params) (pins : Vector Pin 6) : Prop :=
  (∀ i : Fin 6, pins[i] = .z) ∨
  ∃ k : Fin 12, ∃ first second : Pin, ((first = .h ∧ second = .l) ∨ (first = .l ∧ second = .h)) ∧
    ∀ i : Fin 6, pins[i] =
      if i = (p.ledPins[k]).1 then first else if i = (p.ledPins[k]).2 then second else .z

/-- A timer counts only while it runs (10_state.md R44 d). -/
def TimerOk (cnt : BitVec 32) (st : TimerState) : Prop := st = .running ↔ 1 ≤ cnt.toNat

/-- The invariants (a) to (e) and (g) of 10_state.md R44, with the bounds of R29 and R30, legal parameters, a
cache that mirrors the current slot (the first part of R44 f), and the canonical form of the medium. -/
structure Inv (s : State) : Prop where
  legal : Legal s.params
  /-- R44 (a): the histories stay in their window. -/
  window : ∀ b : Fin 12, (s.hist[b]).toNat < 2 ^ s.params.debounceW
  /-- R44 (b). -/
  leds : OneLed s.params s.ledPin
  /-- R29. -/
  filter : s.filtAcc.toNat ≤ adcMax s.params * 2 ^ s.params.filterK
  /-- R30. -/
  accepted : s.prevAcc.toNat ≤ adcMax s.params
  /-- R44 (c), nothing emitted. -/
  silent : s.emitValid = false → s.prevEmit = 0#16 ∧ s.sound = 0xF#4
  /-- R44 (c), a pitch emitted: SOUND is its note. -/
  sounding : s.emitValid = true → (s.sound.toNat : Int) = s.prevEmit.toInt % 12
  /-- R44 (d): the gate is high exactly while its timer runs. -/
  gateRuns : s.gate = true ↔ s.gateSt = .running
  /-- R44 (d), the gate timer. -/
  gateTimer : TimerOk s.gateCnt s.gateSt
  /-- R44 (d), the autosave timer. -/
  saveTimer : TimerOk s.saveCnt s.saveSt
  /-- R44 (e). -/
  elapsed : s.saveEl = true → s.saveSt ≠ .running
  /-- R44 (f), first part: the cache holds the current slot. -/
  cache : s.nvValid = true →
    s.curPay = slotPayload s s.curIdx.toNat ∧ s.curSeq = slotSeq s s.curIdx.toNat
  /-- R44 (g): the output code is that of the last emitted pitch. -/
  code : s.emitValid = true → s.dacCode.toInt = 2 * s.prevEmit.toInt
  /-- The medium is in canonical form. -/
  medium : Memory.wf s.params.nvErased s.nv

/-- The medium holds a run from slot 0 that no later slot carries on: slot `j` up to `K` has the sequence
number `b + j`, and no slot past `K` has the number the run would give it. Recovery then finds `K`, and so
does the next recovery after a write (43_persistence_log.md R160, R161). -/
def RunEndsAt (s : State) (k : Nat) (b : BitVec 8) : Prop :=
  k < Config.ringN ∧ (∀ j, j ≤ k → slotSeq s j = b + BitVec.ofNat 8 j) ∧
    ∀ j, k < j → j < Config.ringN → slotSeq s j ≠ b + BitVec.ofNat 8 j

/-- The log is healthy: the medium holds such a run, and a valid cache holds its last slot
(10_state.md R44 f). -/
def LogOk (s : State) : Prop :=
  ∃ k b, RunEndsAt s k b ∧ (s.nvValid = true →
    s.curIdx.toNat = k ∧ s.curSeq = b + BitVec.ofNat 8 k ∧ s.curPay = slotPayload s k)

/-- The debounce of one button over its samples, oldest first (42_panel_scanner.md R123 to R125). -/
def debounceRun (w : Nat) (hist : BitVec 8) (pressed : Bool) (samples : List Bool) : BitVec 8 × Bool :=
  match samples with
  | [] => (hist, pressed)
  | lvl :: rest => debounceRun w (debounce w hist pressed lvl).hist (debounce w hist pressed lvl).pressed rest

/-- `Tick()` called `n` times on a timer (44_sample_pipeline.md R181): what is left after the last call. -/
def tickTimes (n : Nat) (cnt : BitVec 32) (st : TimerState) : Ticked :=
  match n with
  | 0 => ⟨cnt, st, false⟩
  | m + 1 => tickTimer (tickTimes m cnt st).cnt (tickTimes m cnt st).st

/-- The environment's words of 30_encoding.md R84 (a) and (b): no row of the opcode table matches. -/
def OutsideEventSet (cmd : Word) : Prop := ∀ r ∈ opcodeTable, cmd &&& r.mask ≠ r.pattern

end Sys2Proof.Safety
end

