-- ==== Sys2Proof/Certificates/Slice0/Obligations.lean ====
section
/-! DEFINITION. The statements for the provers, in the order of OBLIGATIONS.json. A frame is written
`t = { s with f := t.f, … }`: every field that is not listed (the medium, the parameters and the undelivered
stimuli among them) is unchanged. -/

open Sys2Proof Sys2Proof.Machine Sys2Proof.Safety

/-! ### Encoding -/

/-- 30_encoding.md R82: each event has exactly one word for each operand value, and the decoder reads it back;
no word decodes to an event it does not encode. -/
def Obligations.DecodeEncodeAgree : Prop :=
  (∀ i : Instr, decode (encode i) = .ok i) ∧ ∀ (w : Word) (i : Instr), decode w = .ok i → encode i = w

/-- 30_encoding.md R82: the decoder accepts exactly the words of spec/opcode_table.json, each for the row that
names it. R85 lets the decoder check the operand ranges of R83 too; that this decoder leaves them to the
meanings, and so accepts 0xC000000F and 0x10200000, is the model's choice (notes/assumptions/5.md). -/
def Obligations.DecoderAcceptsExactlyTheOpcodeTable : Prop :=
  (∀ (w : Word) (r : OpcodeRow), r ∈ opcodeTable → w &&& r.mask = r.pattern →
    ∃ i, decode w = .ok i ∧ i.mnemonic = r.mnemonic) ∧
  ∀ (w : Word) (i : Instr), decode w = .ok i →
    ∃ r ∈ opcodeTable, r.mnemonic = i.mnemonic ∧ w &&& r.mask = r.pattern

/-- 30_encoding.md R87, R108 and 95_test_vectors.md: words the spec writes out, and their events. -/
def Obligations.SpecWordsDecode : Prop :=
  decode 0x10200AB5#32 = .ok (.quant 512#16 0xAB5#12) ∧ decode 0xA012C000#32 = .ok (.tick 300#16 false false) ∧
  decode 0xA0064003#32 = .ok (.tick 100#16 true true) ∧ decode 0x20000001#32 = .ok (.btnstep true) ∧
  decode 0xC000000E#32 = .ok (.rdreg 0x0E#8) ∧ decode 0x90000FFE#32 = .ok (.nvwrite 0xFFE#12) ∧
  decode 0xE0000000#32 = .ok .boot

/-! ### The step -/

/-- 00_scope.md R10, 20_memory.md R69: the next word of the stream, when it is an event, is executed whole;
what else the step does is to take the word off the stream. -/
def Obligations.StepRunsTheDeliveredEvent : Prop :=
  ∀ (s : State) (cmd : Word) (rest : List Stimulus) (i : Instr),
    s.inbox = .event cmd :: rest → decode cmd = .ok i → step s = exec i { s with inbox := rest }

/-- 30_encoding.md R84 (a), (b): a word that no row of the opcode table matches is refused, by the name of its
clause. -/
def Obligations.StepRefusesWordsOutsideTheEventSet : Prop :=
  ∀ (s : State) (cmd : Word) (rest : List Stimulus), s.inbox = .event cmd :: rest → OutsideEventSet cmd →
    (cmd.toNat / 2 ^ 28 ∈ [0x5, 0x6, 0x7, 0xD] ∧ step s = .refused (.reservedOpcode (cmd.toNat / 2 ^ 28))) ∨
    (cmd.toNat / 2 ^ 28 ∉ [0x5, 0x6, 0x7, 0xD] ∧ step s = .refused .reservedField)

/-- 30_encoding.md R84, R212: on an event the model refuses, the hardware changes no register and no NV byte
and answers 0; on every other step it does what the model says. -/
def Obligations.HardwareAnswersRefusedEventsWithZero : Prop :=
  (∀ (s : State) (r : Refusal) (x : Stimulus) (rest : List Stimulus), s.inbox = x :: rest →
    step s = .refused r → hardwareStep s = { s with inbox := rest, rsp := some 0#32 }) ∧
  ∀ s t : State, step s = .next t → hardwareStep s = t

/-- 60_exceptions.md R225, in the model's own terms (notes/assumptions/17.md): with nothing to deliver the
block holds its state and its outputs. -/
def Obligations.IdleBlockHoldsItsState : Prop := ∀ s : State, s.inbox = [] → step s = .next s

/-- 60_exceptions.md R210, 30_encoding.md R84: an event completes exactly when none of the conditions (c) to
(f) holds; otherwise it is refused. It never faults. -/
def Obligations.EventsCompleteUnlessRefused : Prop :=
  ∀ (i : Instr) (s : State),
    (¬ Refused i s → ∃ t, exec i s = .next t) ∧ (Refused i s → ∃ r, exec i s = .refused r)

/-- 30_encoding.md R80, 00_scope.md R5, 20_memory.md R74: every event answers one response word, and none
writes a parameter or touches the undelivered stream (the fields rsp, params and inbox are the model's own). -/
def Obligations.EventsAnswerAndKeepParameters : Prop :=
  ∀ (i : Instr) (s t : State), exec i s = .next t →
    t.params = s.params ∧ t.inbox = s.inbox ∧ ∃ r, t.rsp = some r

/-! ### Reset and loss of power -/

/-- 10_state.md R45: the reset values, NV kept, through the RESET event. -/
def Obligations.ResetEventGivesTheResetValues : Prop :=
  ∀ s : State, ∃ t, exec .reset s = .next t ∧
    t.mask = 0#12 ∧ t.sound = 0xF#4 ∧ t.row = 0 ∧ t.col = 0 ∧ t.ledIdx = 0 ∧
    (∀ b : Fin 12, t.hist[b] = 0#8) ∧ t.pressed = 0#12 ∧ t.touch = false ∧ (∀ p : Fin 6, t.ledPin[p] = .z) ∧
    t.filtAcc = 0#32 ∧ t.prevAcc = 0#16 ∧ t.prevEmit = 0#16 ∧ t.emitValid = false ∧ t.dacCode = 0#16 ∧
    t.gate = false ∧ t.gateCnt = 0#32 ∧ t.gateSt = .idle ∧ t.saveCnt = 0#32 ∧ t.saveSt = .idle ∧
    t.saveEl = false ∧ t.curIdx = 0#7 ∧ t.curSeq = 0#8 ∧ t.curPay = 0#12 ∧ t.nvValid = false ∧
    t.nv = s.nv ∧ SameMedium s t ∧ t.rsp = some 0#32

/-- 10_state.md R38, 70_reset_and_hazards.md R231, R232: a power-on has the reset values whatever the medium
holds, and keeps the medium; at the very first one NV_ERASED is in every byte. State.reset is that of T0 (the
model's choice, notes/assumptions/3.md). -/
def Obligations.PowerOnIsResetWithAnErasedMedium : Prop :=
  State.reset = State.resetWith Config.t0 ∧
  ∀ p : Config.Params, (∀ a, nvByte (State.resetWith p) a = p.nvErased) ∧
    exec .reset (State.resetWith p) = .next { State.resetWith p with rsp := some 0#32 } ∧
    ∀ s : State, s.params = p →
      (∀ a, nvByte (State.powerOn p s.nv) a = nvByte s a) ∧
      exec .reset s = .next { State.powerOn p s.nv with inbox := s.inbox, rsp := some 0#32 }

/-- 70_reset_and_hazards.md R230, 60_exceptions.md R220: the reset input and a power failure that cuts no write
short have one and the same effect as RESET; neither answers (the model's rsp field, notes/assumptions/2.md). -/
def Obligations.ResetInputAndPowerFailActAsReset : Prop :=
  ∀ (s t : State) (rest : List Stimulus), exec .reset { s with inbox := rest } = .next t →
    (s.inbox = .resetInput :: rest → step s = .next { t with rsp := none }) ∧
    (s.inbox = .powerFail :: rest → step s = .next { t with rsp := none })

/-- 60_exceptions.md R220, POWERFAIL(j, g): of the three byte writes of a slot, `j` complete and the next byte
becomes `g` if `g` is a value; no other byte of NV changes and every register is reset. `mask` is what the
event word `cmd` would have written, an NVWRITE or a FLUSH. -/
def Obligations.PowerFailCutsTheSlotWrite : Prop :=
  ∀ (s : State) (cmd : Word) (j : Fin 4) (g : Option Byte) (rest : List Stimulus) (mask : NoteMask),
    s.inbox = .powerFailDuring cmd j g :: rest → s.nvValid = true → mask ≠ s.curPay →
    (decode cmd = .ok (.nvwrite mask) ∨ (decode cmd = .ok .flush ∧ s.saveEl = true ∧ s.mask = mask)) →
    ∃ t, step s = .next t ∧ t = { State.powerOn s.params t.nv with inbox := rest } ∧
      ∀ a, nvByte t a =
        if a = 3 * ((s.curIdx.toNat + 1) % 128) + j.val ∧ j.val ≤ 2 ∧ g.isSome then g.getD 0#8
        else if a = 3 * ((s.curIdx.toNat + 1) % 128) ∧ 0 < j.val then BitVec.ofNat 8 mask.toNat
        else if a = 3 * ((s.curIdx.toNat + 1) % 128) + 1 ∧ 1 < j.val then BitVec.ofNat 8 (mask.toNat / 256)
        else if a = 3 * ((s.curIdx.toNat + 1) % 128) + 2 ∧ 2 < j.val then s.curSeq + 1#8
        else nvByte s a

/-- 60_exceptions.md R220: power lost in place of an event that writes no NV byte leaves NV as it was, and every
register has its reset value. That a refused word, which writes no NV byte either (30_encoding.md R84), and a
`POWERFAIL(j, g)` aimed at an event that writes none are such a loss of power is the model's reading
(notes/assumptions/11.md, DEDUCED). -/
def Obligations.PowerFailElsewhereKeepsTheMedium : Prop :=
  ∀ (s : State) (cmd : Word) (j : Fin 4) (g : Option Byte) (rest : List Stimulus),
    s.inbox = .powerFailDuring cmd j g :: rest →
    (∀ mask, decode cmd = .ok (.nvwrite mask) → s.nvValid = true → mask = s.curPay) →
    (decode cmd = .ok .flush → s.nvValid = true → s.saveEl = true → s.mask = s.curPay) →
    step s = .next { State.powerOn s.params s.nv with inbox := rest }

/-! ### The Quantizer -/

/-- 41_quantizer.md R101, R107, R108: `Quantize` is `QuantizeQ8` at the entry of Pitch Table 1 for the code; QUANT
answers that pitch, as 16-bit two's complement, and writes no state. (Pitch Table 1 as a list of entries or as
`k * code` is the model's form of it: notes/assumptions/9.md.) -/
def Obligations.QuantAnswersThePitch : Prop :=
  (∀ (p : Config.Params) (mask : NoteMask) (code : Nat),
    quantize p mask code = quantizeQ8 mask (pt1 p code)) ∧
  (∀ (p : Config.Params) (code : Nat), code ≤ adcMax p →
    (∀ k, p.pt1 = .linear k → pt1 p code = (BitVec.ofNat 16 (k * code)).toInt) ∧
    ∀ values entry, p.pt1 = .entries values → values[code]? = some entry → pt1 p code = entry.toInt) ∧
  ∀ (s : State) (sample : Sample) (mask : NoteMask), mask ≠ 0#12 → sample.toNat ≤ adcMax s.params →
    ∃ pitch, quantizeQ8 mask (pt1 s.params sample.toNat) = some pitch ∧ -133 ≤ pitch ∧ pitch ≤ 133 ∧
      exec (.quant sample mask) s = .next { s with rsp := some (BitVec.ofNat 32 (pitch % 65536).toNat) }

/-- 30_encoding.md R84 (c), (d): the refusals of QUANT and TICK, by name. -/
def Obligations.OperandRefusalsOfQuantAndTick : Prop :=
  (∀ (s : State) (sample : Sample), exec (.quant sample 0#12) s = .refused .emptyMask) ∧
  (∀ (s : State) (sample : Sample) (mask : NoteMask), mask ≠ 0#12 → adcMax s.params < sample.toNat →
    exec (.quant sample mask) s = .refused .sampleOutOfRange) ∧
  ∀ (s : State) (sample : Sample) (gc gt : Bool), adcMax s.params < sample.toNat →
    exec (.tick sample gc gt) s = .refused .sampleOutOfRange

/-- 41_quantizer.md R109: the Quantizer has a value exactly on a mask with a bit set. -/
def Obligations.QuantizerHasAValueExactlyOnNonemptyMasks : Prop :=
  ∀ (mask : NoteMask) (s : Int), (quantizeQ8 mask s).isSome ↔ mask ≠ 0#12

/-- 41_quantizer.md R100, R114: the pitch is an enabled note, and no enabled note of any octave is nearer. -/
def Obligations.QuantizerFindsTheNearestEnabledNote : Prop :=
  ∀ (mask : NoteMask) (s pitch : Int), quantizeQ8 mask s = some pitch →
    mask.getLsbD (pitch % 12).toNat = true ∧
    ∀ k : Int, mask.getLsbD (k % 12).toNat = true → (256 * pitch - s).natAbs ≤ (256 * k - s).natAbs

/-- 41_quantizer.md R105, R104: among the enabled notes at the least distance the lowest note index wins, and
of one note six semitones away on both sides the upper. -/
def Obligations.QuantizerTiesGoToTheLowestNoteIndex : Prop :=
  ∀ (mask : NoteMask) (s pitch k : Int), quantizeQ8 mask s = some pitch →
    mask.getLsbD (k % 12).toNat = true → (256 * k - s).natAbs = (256 * pitch - s).natAbs →
    pitch % 12 < k % 12 ∨ (pitch % 12 = k % 12 ∧ k ≤ pitch)

/-- 41_quantizer.md R111: the pitch is within six semitones of the input, the lower end excluded. -/
def Obligations.QuantizerStaysWithinSixSemitones : Prop :=
  ∀ (mask : NoteMask) (s pitch : Int), quantizeQ8 mask s = some pitch →
    -1536 < 256 * pitch - s ∧ 256 * pitch - s ≤ 1536 ∧ s / 256 - 5 ≤ pitch ∧ pitch ≤ s / 256 + 6

/-- 41_quantizer.md R112: for a fixed mask the pitch never decreases as the code rises, for every legal
parameter set. -/
def Obligations.QuantizerIsMonotone : Prop :=
  ∀ (p : Config.Params) (mask : NoteMask) (a b : Nat) (low high : Int), Legal p → a ≤ b → b ≤ adcMax p →
    quantizeQ8 mask (pt1 p a) = some low → quantizeQ8 mask (pt1 p b) = some high →
    low ≤ high ∧ quantize p mask a = some low ∧ quantize p mask b = some high

/-- 70_reset_and_hazards.md R248: with such a Pitch Table every output code fits the converter. -/
def Obligations.OutputCodesFitTheConverter : Prop :=
  ∀ (p : Config.Params) (mask : NoteMask) (a dacMax : Nat) (pitch : Int), Legal p → a ≤ adcMax p →
    p.dacMax = some dacMax → 1280 ≤ pt1 p 0 → 2 * (pt1 p (adcMax p) / 256 + 6) ≤ (dacMax : Int) →
    quantizeQ8 mask (pt1 p a) = some pitch →
    0 ≤ 2 * pitch ∧ 2 * pitch ≤ (dacMax : Int) ∧ quantize p mask a = some pitch

/-! ### The Panel Scanner -/

/-- 42_panel_scanner.md R121 to R127: one button step, for the button `b = ROW*4 + COL`. -/
def Obligations.BtnstepDebouncesOneButton : Prop :=
  ∀ (s : State) (lvl : Bool) (b : Fin 12), 2 ≤ s.params.debounceW → s.params.debounceW ≤ 8 →
    b.val = s.row.val * 4 + s.col.val →
    ∃ t, exec (.btnstep lvl) s = .next t ∧
      (t.hist[b]).toNat = (2 * (s.hist[b]).toNat + lvl.toNat) % 2 ^ s.params.debounceW ∧
      (∀ c : Fin 12, c ≠ b → t.hist[c] = s.hist[c] ∧ t.pressed.getLsbD c = s.pressed.getLsbD c ∧
        t.mask.getLsbD c = s.mask.getLsbD c) ∧
      ((t.hist[b]).toNat = 2 ^ s.params.debounceW - 1 → s.pressed.getLsbD b = false →
        t.pressed.getLsbD b = true ∧ t.mask.getLsbD b = !s.mask.getLsbD b ∧ t.touch = true ∧
        t.rsp = some (BitVec.ofNat 32 (65536 + b.val))) ∧
      (¬ ((t.hist[b]).toNat = 2 ^ s.params.debounceW - 1 ∧ s.pressed.getLsbD b = false) →
        t.pressed.getLsbD b = (s.pressed.getLsbD b && decide ((t.hist[b]).toNat ≠ 0)) ∧
        t.mask = s.mask ∧ t.touch = s.touch ∧ t.rsp = some (BitVec.ofNat 32 b.val)) ∧
      t.col.val = (s.col.val + 1) % 4 ∧
      t.row.val = (if s.col.val = 3 then (s.row.val + 1) % 3 else s.row.val) ∧
      t = { s with hist := t.hist, pressed := t.pressed, mask := t.mask, touch := t.touch, row := t.row,
                   col := t.col, rsp := t.rsp } ∧
      SameMedium s t

/-- 42_panel_scanner.md R122: every button step, BTNSTEP or PANSTEP, advances the column, and with its wrap the
row; any twelve consecutive button steps complete and come back to where they began, and each button is sampled
at exactly one of them. -/
def Obligations.TwelveButtonStepsSampleEachButtonOnce : Prop :=
  (∀ (s t : State) (lvl : Bool), exec (.btnstep lvl) s = .next t ∨ exec (.panstep lvl) s = .next t →
    t.col.val = (if s.col.val + 1 = 4 then 0 else s.col.val + 1) ∧
    t.row.val = (if s.col.val + 1 = 4 then (if s.row.val + 1 = 3 then 0 else s.row.val + 1) else s.row.val)) ∧
  ∀ (s : State) (events : List Instr), events.length = 12 →
    (∀ i ∈ events, ∃ lvl, i = .btnstep lvl ∨ i = .panstep lvl) →
    (∃ t, execAll events s = .next t ∧ t.row = s.row ∧ t.col = s.col) ∧
    ∀ b : Fin 12, ∃! n : Nat, n < 12 ∧
      ∃ u, execAll (events.take n) s = .next u ∧ u.row.val * 4 + u.col.val = b.val

/-- 42_panel_scanner.md R137: after an edge, a second edge of the same button needs DEBOUNCE_W inactive samples
in a row and then DEBOUNCE_W active ones; before the first edge, DEBOUNCE_W active ones in a row. -/
def Obligations.BouncingGivesOneEdgePerPress : Prop :=
  ∀ (w : Nat) (samples : List Bool) (last : Bool), 2 ≤ w → w ≤ 8 →
    ((debounce w (debounceRun w (fullWindow w) true samples).1 (debounceRun w (fullWindow w) true samples).2
        last).edge = true →
      (∃ before after, samples = before ++ List.replicate w false ++ after) ∧
      ∃ before, samples ++ [last] = before ++ List.replicate w true) ∧
    ((debounce w (debounceRun w 0#8 false samples).1 (debounceRun w 0#8 false samples).2 last).edge = true →
      ∃ before, samples ++ [last] = before ++ List.replicate w true)

/-- 42_panel_scanner.md R128 to R132: one LED step, for the LED `k = LEDIDX` between its pins A and B. -/
def Obligations.LedstepLightsTheSteppedLed : Prop :=
  ∀ (s : State) (a b : Fin 6), s.params.ledPins[s.ledIdx] = (a, b) → a ≠ b →
    ∃ t, exec .ledstep s = .next t ∧
      (∀ p : Fin 6, t.ledPin[p] =
        if s.sound.toNat = s.ledIdx.val then (if p = a then .h else if p = b then .l else .z)
        else if s.mask.getLsbD s.ledIdx then (if p = a then .l else if p = b then .h else .z)
        else .z) ∧
      t.ledIdx.val = (s.ledIdx.val + 1) % 12 ∧
      t.rsp = some (BitVec.ofNat 32 (s.ledIdx.val +
        16 * (if s.sound.toNat = s.ledIdx.val then 1 else if s.mask.getLsbD s.ledIdx then 2 else 0))) ∧
      t = { s with ledPin := t.ledPin, ledIdx := t.ledIdx, rsp := t.rsp } ∧ SameMedium s t

/-- 42_panel_scanner.md R133: PANSTEP is exactly BTNSTEP followed by LEDSTEP, with the answer of both. -/
def Obligations.PanstepIsBtnstepThenLedstep : Prop :=
  ∀ (s : State) (lvl : Bool), ∃ u v t ru rv, exec (.btnstep lvl) s = .next u ∧ exec .ledstep u = .next v ∧
    u.rsp = some ru ∧ v.rsp = some rv ∧ exec (.panstep lvl) s = .next t ∧
    t = { v with rsp := some (ru ||| rv <<< 8) }

/-! ### The Persistence Log -/

/-- 43_persistence_log.md R151, R153, R160: NVREAD finds the longest run from slot 0, on any medium, caches its
last slot, answers the payload, and changes nothing else. -/
def Obligations.NvreadRecoversTheLongestRun : Prop :=
  ∀ s : State, ∃ t, exec .nvread s = .next t ∧
    (∀ j, j < t.curIdx.toNat → nvByte s (3 * (j + 1) + 2) = nvByte s (3 * j + 2) + 1#8) ∧
    (t.curIdx.toNat < 127 →
      nvByte s (3 * (t.curIdx.toNat + 1) + 2) ≠ nvByte s (3 * t.curIdx.toNat + 2) + 1#8) ∧
    t.curSeq = nvByte s (3 * t.curIdx.toNat + 2) ∧
    t.curPay.toNat = (nvByte s (3 * t.curIdx.toNat)).toNat +
      256 * ((nvByte s (3 * t.curIdx.toNat + 1)).toNat % 16) ∧
    t.nvValid = true ∧ t.rsp = some (BitVec.ofNat 32 t.curPay.toNat) ∧
    t = { s with curIdx := t.curIdx, curSeq := t.curSeq, curPay := t.curPay, nvValid := t.nvValid,
                 rsp := t.rsp } ∧
    SameMedium s t

/-- 43_persistence_log.md R152: on a medium whose bytes are all equal, recovery gives slot 0 and that byte cut
to the payload. -/
def Obligations.ErasedMediumRecoversSlotZero : Prop :=
  ∀ (s : State) (e : Byte), (∀ a, a < 384 → nvByte s a = e) →
    ∃ t, exec .nvread s = .next t ∧ t.curIdx = 0#7 ∧ t.curSeq = e ∧
      t.curPay.toNat = e.toNat + 256 * (e.toNat % 16)

/-- 45_system_commands.md R202: BOOT is NVREAD followed by the load of MASK, as one event. -/
def Obligations.BootIsNvreadThenTheLoadOfMask : Prop :=
  ∀ s : State, ∃ u t, exec .nvread s = .next u ∧ exec .boot s = .next t ∧ t = { u with mask := u.curPay } ∧
    t.rsp = some (BitVec.ofNat 32 t.mask.toNat) ∧ SameMedium s t

/-- 43_persistence_log.md R155, R157: an NVWRITE of a changed payload writes the three bytes of the next slot
and makes it current; every other byte and register is unchanged. -/
def Obligations.NvwriteAppendsASlot : Prop :=
  ∀ (s : State) (mask : NoteMask), s.nvValid = true → mask ≠ s.curPay →
    ∃ t, exec (.nvwrite mask) s = .next t ∧
      t.curIdx.toNat = (s.curIdx.toNat + 1) % 128 ∧ t.curSeq.toNat = (s.curSeq.toNat + 1) % 256 ∧
      t.curPay = mask ∧ t.rsp = some 1#32 ∧
      (nvByte t (3 * t.curIdx.toNat)).toNat = mask.toNat % 256 ∧
      (nvByte t (3 * t.curIdx.toNat + 1)).toNat = mask.toNat / 256 ∧
      nvByte t (3 * t.curIdx.toNat + 2) = t.curSeq ∧
      (∀ a, a < 3 * t.curIdx.toNat ∨ 3 * t.curIdx.toNat + 2 < a → nvByte t a = nvByte s a) ∧
      t = { s with nv := t.nv, curIdx := t.curIdx, curSeq := t.curSeq, curPay := t.curPay, rsp := t.rsp }

/-- 43_persistence_log.md R154: an unchanged payload is not written; no byte and no register changes, but for
FLUSH's own clearing of SAVEEL (44_sample_pipeline.md R185). -/
def Obligations.WritesOfTheCurrentPayloadAreSuppressed : Prop :=
  ∀ s : State, s.nvValid = true → exec (.nvwrite s.curPay) s = .next { s with rsp := some 0#32 } ∧
    (s.saveEl = true → s.mask = s.curPay →
      exec .flush s = .next { s with saveEl := false, rsp := some 2#32 })

/-- 43_persistence_log.md R158: NVWRITE and FLUSH are refused until NVREAD or BOOT has run. -/
def Obligations.LogWritesAreRefusedBeforeRecovery : Prop :=
  ∀ (s : State) (mask : NoteMask), s.nvValid = false →
    exec (.nvwrite mask) s = .refused .logNotRecovered ∧ exec .flush s = .refused .logNotRecovered ∧
    ∀ t, (exec .nvread s = .next t ∨ exec .boot s = .next t) → t.nvValid = true

/-- 44_sample_pipeline.md R185: with SAVEEL set, FLUSH does the one write of MASK that NVWRITE would do and
clears the flag; with SAVEEL clear, nothing happens, so a second FLUSH writes nothing. -/
def Obligations.FlushWritesTheMaskExactlyOnce : Prop :=
  ∀ s : State, s.nvValid = true →
    (s.saveEl = false → exec .flush s = .next { s with rsp := some 0#32 }) ∧
    (s.saveEl = true → ∃ u t, exec (.nvwrite s.mask) s = .next u ∧ exec .flush s = .next t ∧
      t = { u with saveEl := false,
                   rsp := some (if s.mask = s.curPay then 2#32 else 3#32) } ∧
      t.curPay = s.mask ∧ exec .flush t = .next { t with rsp := some 0#32 })

/-- 43_persistence_log.md R161, 70_reset_and_hazards.md R232: a power-on on a medium with every byte equal has a
healthy log, and on an arbitrary medium one exactly when the run from slot 0 is carried on by no later slot; and
every step, a power failure among them, keeps the log healthy. -/
def Obligations.StepsKeepTheLogHealthy : Prop :=
  (∀ (p : Config.Params) (nv : Memory) (stimuli : List Stimulus) (e : Byte),
    (∀ a, a < 384 → nvByte (State.powerOn p nv) a = e) → LogOk { State.powerOn p nv with inbox := stimuli }) ∧
  (∀ (p : Config.Params) (nv : Memory) (stimuli : List Stimulus),
    LogOk { State.powerOn p nv with inbox := stimuli } ↔ ∃ k b, RunEndsAt (State.powerOn p nv) k b) ∧
  ∀ s t : State, LogOk s → step s = .next t → LogOk t

/-- 43_persistence_log.md R162: whatever the environment did since a power-on on a medium with every byte equal, or
on any other medium where no later slot carries on the run from slot 0 (70_reset_and_hazards.md R232, R243), a mask
written with a recovered log is what a reboot recovers. -/
def Obligations.WrittenMaskSurvivesAReboot : Prop :=
  ∀ (p : Config.Params) (nv : Memory) (stimuli : List Stimulus) (n : Nat) (s : State) (x : NoteMask),
    ((∃ e, ∀ a, a < 384 → nvByte (State.powerOn p nv) a = e) ∨ ∃ k b, RunEndsAt (State.powerOn p nv) k b) →
    Sys2Proof.core.run n { State.powerOn p nv with inbox := stimuli } = .next s → s.nvValid = true →
    ∃ t, execAll [.nvwrite x, .reset, .nvread] s = .next t ∧ t.curPay = x ∧
      t.rsp = some (BitVec.ofNat 32 x.toNat)

/-- 43_persistence_log.md R163, 60_exceptions.md R220: after power fails during a write on a healthy log, the
next recovery returns the previous mask or the new mask, never a mixture; the previous one if the sequence
byte was not reached, the new one if the write was complete. -/
def Obligations.TornWriteRecoversOldOrNewMask : Prop :=
  ∀ (s t u : State) (cmd : Word) (j : Fin 4) (g : Option Byte) (rest : List Stimulus) (mask : NoteMask),
    LogOk s → s.inbox = .powerFailDuring cmd j g :: rest → s.nvValid = true → mask ≠ s.curPay →
    (decode cmd = .ok (.nvwrite mask) ∨ (decode cmd = .ok .flush ∧ s.saveEl = true ∧ s.mask = mask)) →
    step s = .next t → exec .nvread t = .next u →
    (u.curPay = s.curPay ∨ u.curPay = mask) ∧
    ((j.val ≤ 1 ∨ (j.val = 2 ∧ g = none)) → u.curPay = s.curPay) ∧
    (j.val = 2 → s.curIdx.toNat ≠ 127 → g ≠ some (s.curSeq + 1#8) → u.curPay = s.curPay) ∧
    (j.val = 3 ∨ (j.val = 2 ∧ g = some (s.curSeq + 1#8)) → u.curPay = mask)

/-- Where R163's sentence "recovery returns the previous mask" is not what the algorithm of R151, R155 and
R220 does (notes/assumptions/14.md): the torn slot is slot 0, and its sequence byte is neither the old one nor
the intended one. The walk then ends at slot 0 at once, and the NEW mask is recovered, of an NVWRITE and of a
FLUSH alike. -/
def Obligations.TornSequenceOfSlotZeroRecoversTheNewMask : Prop :=
  ∀ (s t u : State) (cmd : Word) (g : Byte) (rest : List Stimulus) (mask : NoteMask),
    LogOk s → s.inbox = .powerFailDuring cmd 2 (some g) :: rest → s.nvValid = true → mask ≠ s.curPay →
    (decode cmd = .ok (.nvwrite mask) ∨ (decode cmd = .ok .flush ∧ s.saveEl = true ∧ s.mask = mask)) →
    s.curIdx.toNat = 127 → g ≠ nvByte s 2 → g ≠ s.curSeq + 1#8 →
    step s = .next t → exec .nvread t = .next u → u.curPay = mask ∧ u.curIdx = 0#7

/-! ### The Sample Pipeline -/

/-- 44_sample_pipeline.md R180, R181: a timer started with `n` runs down by one a call, expires at the `n`-th
call and at no other, and is idle after the next. -/
def Obligations.TimerExpiresAtTheNthTick : Prop :=
  ∀ (n : BitVec 32) (k : Nat), 1 ≤ n.toNat →
    (1 ≤ k → k < n.toNat →
      tickTimes k n .running = ⟨BitVec.ofNat 32 (n.toNat - k), .running, false⟩) ∧
    tickTimes n.toNat n .running = ⟨0#32, .expired, true⟩ ∧
    (n.toNat < k → tickTimes k n .running = ⟨0#32, .idle, false⟩)

/-- 44_sample_pipeline.md R172, R184: TICK with a sample in range always completes; the accumulator takes the
filter's value and keeps its bound; the registers of other units and the medium are not written. -/
def Obligations.TickFiltersEverySample : Prop :=
  ∀ (s : State) (sample : Sample) (gc gt : Bool), Legal s.params →
    s.filtAcc.toNat ≤ adcMax s.params * 2 ^ s.params.filterK → sample.toNat ≤ adcMax s.params →
    ∃ t, exec (.tick sample gc gt) s = .next t ∧
      t.filtAcc.toNat = s.filtAcc.toNat - s.filtAcc.toNat / 2 ^ s.params.filterK + sample.toNat ∧
      t.filtAcc.toNat ≤ adcMax s.params * 2 ^ s.params.filterK ∧
      t.filtAcc.toNat / 2 ^ s.params.filterK ≤ adcMax s.params ∧
      t = { s with filtAcc := t.filtAcc, touch := t.touch, saveCnt := t.saveCnt, saveSt := t.saveSt,
                   saveEl := t.saveEl, prevAcc := t.prevAcc, prevEmit := t.prevEmit,
                   emitValid := t.emitValid, sound := t.sound, dacCode := t.dacCode, gate := t.gate,
                   gateCnt := t.gateCnt, gateSt := t.gateSt, rsp := t.rsp } ∧
      SameMedium s t

/-- 44_sample_pipeline.md R173, R183: a pending touch is taken and restarts the autosave timer, which is then
ticked; its expiry sets SAVEEL; without a touch the timer is only ticked. -/
def Obligations.TickDrivesTheAutosaveTimer : Prop :=
  ∀ (s t : State) (sample : Sample) (gc gt : Bool), exec (.tick sample gc gt) s = .next t →
    t.touch = false ∧
    (∀ after, after = tickTimer (if s.touch then s.params.autosaveTicks else s.saveCnt)
        (if s.touch then .running else s.saveSt) →
      t.saveCnt = after.cnt ∧ t.saveSt = after.st ∧
      t.saveEl = ((s.saveEl && !s.touch) || after.expired))

/-- 44_sample_pipeline.md R175: a tick with an empty mask makes the previous emitted pitch NONE and clears the
sounding note; no code is written, PREVACC stays, and a running gate only runs on. -/
def Obligations.EmptyMaskTickSilencesTheOutput : Prop :=
  ∀ (s : State) (sample : Sample) (gc gt : Bool), sample.toNat ≤ adcMax s.params → s.mask = 0#12 →
    ∃ t after, exec (.tick sample gc gt) s = .next t ∧ after = tickTimer s.gateCnt s.gateSt ∧
      t.emitValid = false ∧ t.prevEmit = 0#16 ∧ t.sound = 0xF#4 ∧ t.dacCode = s.dacCode ∧
      t.prevAcc = s.prevAcc ∧ t.gateCnt = after.cnt ∧ t.gateSt = after.st ∧
      t.gate = (s.gate && !after.expired)

/-- 44_sample_pipeline.md R174: with a cable present and no trigger, whatever the sample, no sample is accepted
and no pitch emitted; the gate timer runs on. -/
def Obligations.TickWithoutTriggerHoldsTheOutput : Prop :=
  ∀ (s : State) (sample : Sample), sample.toNat ≤ adcMax s.params → s.mask ≠ 0#12 →
    ∃ t after, exec (.tick sample true false) s = .next t ∧ after = tickTimer s.gateCnt s.gateSt ∧
      t.emitValid = s.emitValid ∧ t.prevEmit = s.prevEmit ∧ t.sound = s.sound ∧ t.dacCode = s.dacCode ∧
      t.prevAcc = s.prevAcc ∧ t.gateCnt = after.cnt ∧ t.gateSt = after.st ∧
      t.gate = (s.gate && !after.expired)

/-- 44_sample_pipeline.md R176 to R179, R182, R188: a running tick accepts the filtered sample `f` unless it is
nearer than DEADBAND to the last accepted one, quantizes the accepted code `a`, and emits the pitch `p` when it
is new: code `2p`, gate high, gate timer started and then ticked, SOUND the note of `p`. -/
def Obligations.RunningTickEmitsANewPitch : Prop :=
  ∀ (s : State) (sample : Sample) (gc gt : Bool), Inv s → sample.toNat ≤ adcMax s.params → s.mask ≠ 0#12 →
    (gc = false ∨ gt = true) →
    ∃ t f a p after, exec (.tick sample gc gt) s = .next t ∧
      f = t.filtAcc.toNat / 2 ^ s.params.filterK ∧
      a = (if ((f : Int) - s.prevAcc.toNat).natAbs < s.params.deadband then s.prevAcc.toNat else f) ∧
      t.prevAcc.toNat = a ∧ quantizeQ8 s.mask (pt1 s.params a) = some p ∧
      t.emitValid = true ∧ t.prevEmit.toInt = p ∧ t.dacCode.toInt = 2 * p ∧
      (t.sound.toNat : Int) = p % 12 ∧
      (s.emitValid = true ∧ s.prevEmit.toInt = p → after = tickTimer s.gateCnt s.gateSt ∧
        t.gate = (s.gate && !after.expired)) ∧
      (¬ (s.emitValid = true ∧ s.prevEmit.toInt = p) → after = tickTimer s.params.gateTicks .running ∧
        t.gate = !after.expired) ∧
      t.gateCnt = after.cnt ∧ t.gateSt = after.st

/-- 30_encoding.md R86, 44_sample_pipeline.md R184: the answer of TICK, bit by bit: the code and the gate after
the tick; a pitch begun, the gate ended, and the autosave timer expired in this tick. -/
def Obligations.TickAnswersWhatHappened : Prop :=
  ∀ (s t : State) (sample : Sample) (gc gt : Bool), exec (.tick sample gc gt) s = .next t →
    ∃ begun ended elapsed : Bool,
      t.rsp = some (BitVec.ofNat 32 ((t.dacCode.toNat + 65536 * t.gate.toNat + 131072 * begun.toNat +
        262144 * ended.toNat + 524288 * elapsed.toNat))) ∧
      (begun = true ↔ t.emitValid = true ∧ (s.emitValid = false ∨ t.prevEmit ≠ s.prevEmit)) ∧
      (ended = true ↔ t.gateSt = .expired) ∧ (elapsed = true ↔ t.saveSt = .expired)

/-- 44_sample_pipeline.md R186: while the filtered sample stays inside the deadband of the last accepted one
and the mask does not change, a running tick accepts nothing and emits nothing: the output is untouched, the
gate only runs on, and bit 17 of the answer, "begun", is 0. -/
def Obligations.DeadbandHoldsThePitch : Prop :=
  ∀ (s t : State) (sample : Sample) (gc gt : Bool) (p : Int), Inv s → s.mask ≠ 0#12 →
    quantizeQ8 s.mask (pt1 s.params s.prevAcc.toNat) = some p → s.emitValid = true → s.prevEmit.toInt = p →
    (((filterNext s.params.filterK s.filtAcc sample).toNat / 2 ^ s.params.filterK : Nat) - (s.prevAcc.toNat : Int)).natAbs
      < s.params.deadband →
    exec (.tick sample gc gt) s = .next t →
    t.prevAcc = s.prevAcc ∧ t.dacCode = s.dacCode ∧ t.prevEmit = s.prevEmit ∧ t.sound = s.sound ∧
      t.emitValid = true ∧
      (∀ after, after = tickTimer s.gateCnt s.gateSt →
        t.gateCnt = after.cnt ∧ t.gateSt = after.st ∧ t.gate = (s.gate && !after.expired)) ∧
      ∃ r, t.rsp = some r ∧ r.getLsbD 17 = false

/-- 44_sample_pipeline.md R187: after a touch, exactly the AUTOSAVE_TICKS-th tick sets SAVEEL, if no further
touch comes between; the FLUSH after it leaves the mask in the log. -/
def Obligations.AutosaveElapsesAfterItsExactCountdown : Prop :=
  ∀ (s : State) (ticks : List (Sample × Bool × Bool)), 1 ≤ s.params.autosaveTicks.toNat → s.touch = true →
    (∀ x ∈ ticks, x.1.toNat ≤ adcMax s.params) → 1 ≤ ticks.length →
    ticks.length ≤ s.params.autosaveTicks.toNat →
    ∃ t, execAll (ticks.map fun x => .tick x.1 x.2.1 x.2.2) s = .next t ∧
      t.saveEl = decide (ticks.length = s.params.autosaveTicks.toNat) ∧
      (ticks.length = s.params.autosaveTicks.toNat → s.nvValid = true →
        ∃ u, exec .flush t = .next u ∧ u.saveEl = false ∧ u.curPay = s.mask)

/-- 70_reset_and_hazards.md R235: before BOOT, with nothing pending, a tick changes FILTACC only, whatever
earlier ticks left there and whatever the medium holds. -/
def Obligations.TickBeforeBootOnlyFilters : Prop :=
  ∀ (p : Config.Params) (nv : Memory) (acc : BitVec 32) (sample : Sample) (gc gt : Bool) (s : State),
    s = { State.powerOn p nv with filtAcc := acc } → sample.toNat ≤ adcMax p →
    ∃ t, exec (.tick sample gc gt) s = .next t ∧ t = { s with filtAcc := t.filtAcc, rsp := some 0#32 }

/-! ### System events -/

/-- 45_system_commands.md R200: NOP is the word 0, answers 0 and leaves the state unchanged; any other word with
the opcode 0 is not NOP and is refused. -/
def Obligations.NopChangesNothing : Prop :=
  decode 0x00000000#32 = .ok .nop ∧ (∀ s : State, exec .nop s = .next { s with rsp := some 0#32 }) ∧
  ∀ (s : State) (cmd : Word) (rest : List Stimulus), cmd ≠ 0#32 → cmd.toNat < 2 ^ 28 →
    s.inbox = .event cmd :: rest → step s = .refused .reservedField

/-- 10_state.md R42, R34, 45_system_commands.md R201: the registers of one field, read without side effect; signed
ones as 16 bits, not extended; a timer's state as 0 IDLE, 1 RUNNING, 2 EXPIRED. -/
def Obligations.RdregReadsTheRegisters : Prop :=
  ∀ (s : State) (n v : Nat), (n, v) ∈ [(0x00, s.mask.toNat), (0x01, s.sound.toNat), (0x03, s.pressed.toNat),
      (0x06, s.dacCode.toNat), (0x07, s.prevEmit.toNat), (0x08, s.prevAcc.toNat), (0x09, s.filtAcc.toNat),
      (0x0A, s.gateCnt.toNat), (0x0B, match s.gateSt with | .idle => 0 | .running => 1 | .expired => 2),
      (0x0C, s.saveCnt.toNat), (0x0D, match s.saveSt with | .idle => 0 | .running => 1 | .expired => 2)] →
    exec (.rdreg (BitVec.ofNat 8 n)) s = .next { s with rsp := some (BitVec.ofNat 32 v) }

/-- 10_state.md R42: the packed registers SCANPOS, FLAGS, LEDPINS, NVCUR and the histories. -/
def Obligations.RdregReadsThePackedRegisters : Prop :=
  ∀ s : State,
    exec (.rdreg 0x02#8) s = .next { s with rsp := some (BitVec.ofNat 32
      (s.col.val + 4 * s.row.val + 16 * s.ledIdx.val)) } ∧
    exec (.rdreg 0x04#8) s = .next { s with rsp := some (BitVec.ofNat 32
      (s.touch.toNat + 2 * s.saveEl.toNat + 4 * s.gate.toNat + 8 * s.nvValid.toNat +
        16 * s.emitValid.toNat)) } ∧
    (∃ v, exec (.rdreg 0x05#8) s = .next { s with rsp := some v } ∧ v.toNat < 2 ^ 12 ∧
      ∀ p : Fin 6, v.getLsbD (2 * p.val + 1) = decide (s.ledPin[p] ≠ .z) ∧
        v.getLsbD (2 * p.val) = decide (s.ledPin[p] = .h)) ∧
    exec (.rdreg 0x0E#8) s = .next { s with rsp := some (BitVec.ofNat 32
      (s.curIdx.toNat + 256 * s.curSeq.toNat + 65536 * s.curPay.toNat)) } ∧
    ∀ b : Fin 12, exec (.rdreg (BitVec.ofNat 8 (0x10 + b.val))) s =
      .next { s with rsp := some (BitVec.ofNat 32 (s.hist[b]).toNat) }

/-- 30_encoding.md R84 (e): a number that is not listed is refused by name. -/
def Obligations.RdregRefusesUnlistedNumbers : Prop :=
  ∀ (s : State) (reg : BitVec 8), reg = 0x0F#8 ∨ 0x1C ≤ reg.toNat →
    exec (.rdreg reg) s = .refused (.noSuchRegister reg)

/-! ### The whole machine -/

/-- 10_state.md R43: who writes what. RESET, which writes every volatile register, is named beside the owners. -/
def Obligations.EveryRegisterHasItsOwners : Prop :=
  ∀ (i : Instr) (s t : State), exec i s = .next t → i ≠ .reset →
    ((∀ lvl, i ≠ .btnstep lvl) → (∀ lvl, i ≠ .panstep lvl) →
      t.row = s.row ∧ t.col = s.col ∧ t.hist = s.hist ∧ t.pressed = s.pressed ∧
        (i ≠ .ledstep → t.ledIdx = s.ledIdx ∧ t.ledPin = s.ledPin) ∧ (i ≠ .boot → t.mask = s.mask)) ∧
    ((∀ mask, i ≠ .nvwrite mask) → i ≠ .flush → t.nv = s.nv ∧ SameMedium s t ∧
      (i ≠ .nvread → i ≠ .boot → t.curIdx = s.curIdx ∧ t.curSeq = s.curSeq ∧ t.curPay = s.curPay ∧
        t.nvValid = s.nvValid)) ∧
    ((∀ sample gc gt, i ≠ .tick sample gc gt) →
      t.dacCode = s.dacCode ∧ t.gate = s.gate ∧ t.gateCnt = s.gateCnt ∧ t.gateSt = s.gateSt ∧
        t.saveCnt = s.saveCnt ∧ t.saveSt = s.saveSt ∧ t.filtAcc = s.filtAcc ∧ t.prevAcc = s.prevAcc ∧
        t.prevEmit = s.prevEmit ∧ t.emitValid = s.emitValid ∧ t.sound = s.sound ∧
        (i ≠ .flush → t.saveEl = s.saveEl)) ∧
    ((∀ lvl, i ≠ .btnstep lvl) → (∀ lvl, i ≠ .panstep lvl) → (∀ sample gc gt, i ≠ .tick sample gc gt) →
      t.touch = s.touch)

/-- 10_state.md R44, 70_reset_and_hazards.md R232: the invariants of `Inv` hold at State.reset, and at every
power-on of a legal parameter set, whatever its medium holds. (The canonical form, which the medium is asked to be
written in, is the model's own: notes/assumptions/10.md.) -/
def Obligations.InvariantsHoldAtReset : Prop :=
  Inv State.reset ∧
  ∀ (p : Config.Params) (nv : Memory) (stimuli : List Stimulus), Legal p → Memory.wf p.nvErased nv →
    Inv { State.powerOn p nv with inbox := stimuli }

/-- 10_state.md R44: every step keeps the invariants (a) to (e) and (g), of (f) its first part, that the cache
mirrors the current slot, the bounds of R29 and R30, and the canonical form of the medium. The last part of (f),
that recovery yields CURIDX, is left out here, for it fails on a medium that was never erased
(notes/assumptions/15.md); StepsKeepTheLogHealthy has it for a healthy log. The canonical form is the model's own
(notes/assumptions/10.md, DESIGN CHOICE). -/
def Obligations.StepsKeepTheInvariants : Prop :=
  ∀ s t : State, Inv s → step s = .next t → Inv t
end

