-- ==== Sys2Proof/Laws/State.lean ====
section
/-! SUPPORT. One lemma per field per update of the state, true by rfl, so that no proof unfolds a record
update. -/

namespace Sys2Proof.Machine

/-! ### answer -/

@[simp] theorem answer_mask (r : Word) (s : State) : (answer r s).mask = s.mask := rfl
@[simp] theorem answer_row (r : Word) (s : State) : (answer r s).row = s.row := rfl
@[simp] theorem answer_col (r : Word) (s : State) : (answer r s).col = s.col := rfl
@[simp] theorem answer_ledIdx (r : Word) (s : State) : (answer r s).ledIdx = s.ledIdx := rfl
@[simp] theorem answer_hist (r : Word) (s : State) : (answer r s).hist = s.hist := rfl
@[simp] theorem answer_pressed (r : Word) (s : State) : (answer r s).pressed = s.pressed := rfl
@[simp] theorem answer_touch (r : Word) (s : State) : (answer r s).touch = s.touch := rfl
@[simp] theorem answer_ledPin (r : Word) (s : State) : (answer r s).ledPin = s.ledPin := rfl
@[simp] theorem answer_filtAcc (r : Word) (s : State) : (answer r s).filtAcc = s.filtAcc := rfl
@[simp] theorem answer_prevAcc (r : Word) (s : State) : (answer r s).prevAcc = s.prevAcc := rfl
@[simp] theorem answer_prevEmit (r : Word) (s : State) : (answer r s).prevEmit = s.prevEmit := rfl
@[simp] theorem answer_emitValid (r : Word) (s : State) : (answer r s).emitValid = s.emitValid := rfl
@[simp] theorem answer_sound (r : Word) (s : State) : (answer r s).sound = s.sound := rfl
@[simp] theorem answer_dacCode (r : Word) (s : State) : (answer r s).dacCode = s.dacCode := rfl
@[simp] theorem answer_gate (r : Word) (s : State) : (answer r s).gate = s.gate := rfl
@[simp] theorem answer_gateCnt (r : Word) (s : State) : (answer r s).gateCnt = s.gateCnt := rfl
@[simp] theorem answer_gateSt (r : Word) (s : State) : (answer r s).gateSt = s.gateSt := rfl
@[simp] theorem answer_saveCnt (r : Word) (s : State) : (answer r s).saveCnt = s.saveCnt := rfl
@[simp] theorem answer_saveSt (r : Word) (s : State) : (answer r s).saveSt = s.saveSt := rfl
@[simp] theorem answer_saveEl (r : Word) (s : State) : (answer r s).saveEl = s.saveEl := rfl
@[simp] theorem answer_curIdx (r : Word) (s : State) : (answer r s).curIdx = s.curIdx := rfl
@[simp] theorem answer_curSeq (r : Word) (s : State) : (answer r s).curSeq = s.curSeq := rfl
@[simp] theorem answer_curPay (r : Word) (s : State) : (answer r s).curPay = s.curPay := rfl
@[simp] theorem answer_nvValid (r : Word) (s : State) : (answer r s).nvValid = s.nvValid := rfl
@[simp] theorem answer_nv (r : Word) (s : State) : (answer r s).nv = s.nv := rfl
@[simp] theorem answer_params (r : Word) (s : State) : (answer r s).params = s.params := rfl
@[simp] theorem answer_inbox (r : Word) (s : State) : (answer r s).inbox = s.inbox := rfl
@[simp] theorem answer_rsp (r : Word) (s : State) : (answer r s).rsp = some r := rfl

/-! ### nvStore -/

@[simp] theorem nvStore_mask (s : State) (a : Nat) (v : Byte) : (nvStore s a v).mask = s.mask := rfl
@[simp] theorem nvStore_row (s : State) (a : Nat) (v : Byte) : (nvStore s a v).row = s.row := rfl
@[simp] theorem nvStore_col (s : State) (a : Nat) (v : Byte) : (nvStore s a v).col = s.col := rfl
@[simp] theorem nvStore_ledIdx (s : State) (a : Nat) (v : Byte) : (nvStore s a v).ledIdx = s.ledIdx := rfl
@[simp] theorem nvStore_hist (s : State) (a : Nat) (v : Byte) : (nvStore s a v).hist = s.hist := rfl
@[simp] theorem nvStore_pressed (s : State) (a : Nat) (v : Byte) : (nvStore s a v).pressed = s.pressed := rfl
@[simp] theorem nvStore_touch (s : State) (a : Nat) (v : Byte) : (nvStore s a v).touch = s.touch := rfl
@[simp] theorem nvStore_ledPin (s : State) (a : Nat) (v : Byte) : (nvStore s a v).ledPin = s.ledPin := rfl
@[simp] theorem nvStore_filtAcc (s : State) (a : Nat) (v : Byte) : (nvStore s a v).filtAcc = s.filtAcc := rfl
@[simp] theorem nvStore_prevAcc (s : State) (a : Nat) (v : Byte) : (nvStore s a v).prevAcc = s.prevAcc := rfl
@[simp] theorem nvStore_prevEmit (s : State) (a : Nat) (v : Byte) : (nvStore s a v).prevEmit = s.prevEmit := rfl
@[simp] theorem nvStore_emitValid (s : State) (a : Nat) (v : Byte) : (nvStore s a v).emitValid = s.emitValid := rfl
@[simp] theorem nvStore_sound (s : State) (a : Nat) (v : Byte) : (nvStore s a v).sound = s.sound := rfl
@[simp] theorem nvStore_dacCode (s : State) (a : Nat) (v : Byte) : (nvStore s a v).dacCode = s.dacCode := rfl
@[simp] theorem nvStore_gate (s : State) (a : Nat) (v : Byte) : (nvStore s a v).gate = s.gate := rfl
@[simp] theorem nvStore_gateCnt (s : State) (a : Nat) (v : Byte) : (nvStore s a v).gateCnt = s.gateCnt := rfl
@[simp] theorem nvStore_gateSt (s : State) (a : Nat) (v : Byte) : (nvStore s a v).gateSt = s.gateSt := rfl
@[simp] theorem nvStore_saveCnt (s : State) (a : Nat) (v : Byte) : (nvStore s a v).saveCnt = s.saveCnt := rfl
@[simp] theorem nvStore_saveSt (s : State) (a : Nat) (v : Byte) : (nvStore s a v).saveSt = s.saveSt := rfl
@[simp] theorem nvStore_saveEl (s : State) (a : Nat) (v : Byte) : (nvStore s a v).saveEl = s.saveEl := rfl
@[simp] theorem nvStore_curIdx (s : State) (a : Nat) (v : Byte) : (nvStore s a v).curIdx = s.curIdx := rfl
@[simp] theorem nvStore_curSeq (s : State) (a : Nat) (v : Byte) : (nvStore s a v).curSeq = s.curSeq := rfl
@[simp] theorem nvStore_curPay (s : State) (a : Nat) (v : Byte) : (nvStore s a v).curPay = s.curPay := rfl
@[simp] theorem nvStore_nvValid (s : State) (a : Nat) (v : Byte) : (nvStore s a v).nvValid = s.nvValid := rfl
@[simp] theorem nvStore_nv (s : State) (a : Nat) (v : Byte) : (nvStore s a v).nv = memWrite s.params.nvErased s.nv a v := rfl
@[simp] theorem nvStore_params (s : State) (a : Nat) (v : Byte) : (nvStore s a v).params = s.params := rfl
@[simp] theorem nvStore_inbox (s : State) (a : Nat) (v : Byte) : (nvStore s a v).inbox = s.inbox := rfl
@[simp] theorem nvStore_rsp (s : State) (a : Nat) (v : Byte) : (nvStore s a v).rsp = s.rsp := rfl

/-! ### recover -/

@[simp] theorem recover_mask (s : State) : (recover s).mask = s.mask := rfl
@[simp] theorem recover_row (s : State) : (recover s).row = s.row := rfl
@[simp] theorem recover_col (s : State) : (recover s).col = s.col := rfl
@[simp] theorem recover_ledIdx (s : State) : (recover s).ledIdx = s.ledIdx := rfl
@[simp] theorem recover_hist (s : State) : (recover s).hist = s.hist := rfl
@[simp] theorem recover_pressed (s : State) : (recover s).pressed = s.pressed := rfl
@[simp] theorem recover_touch (s : State) : (recover s).touch = s.touch := rfl
@[simp] theorem recover_ledPin (s : State) : (recover s).ledPin = s.ledPin := rfl
@[simp] theorem recover_filtAcc (s : State) : (recover s).filtAcc = s.filtAcc := rfl
@[simp] theorem recover_prevAcc (s : State) : (recover s).prevAcc = s.prevAcc := rfl
@[simp] theorem recover_prevEmit (s : State) : (recover s).prevEmit = s.prevEmit := rfl
@[simp] theorem recover_emitValid (s : State) : (recover s).emitValid = s.emitValid := rfl
@[simp] theorem recover_sound (s : State) : (recover s).sound = s.sound := rfl
@[simp] theorem recover_dacCode (s : State) : (recover s).dacCode = s.dacCode := rfl
@[simp] theorem recover_gate (s : State) : (recover s).gate = s.gate := rfl
@[simp] theorem recover_gateCnt (s : State) : (recover s).gateCnt = s.gateCnt := rfl
@[simp] theorem recover_gateSt (s : State) : (recover s).gateSt = s.gateSt := rfl
@[simp] theorem recover_saveCnt (s : State) : (recover s).saveCnt = s.saveCnt := rfl
@[simp] theorem recover_saveSt (s : State) : (recover s).saveSt = s.saveSt := rfl
@[simp] theorem recover_saveEl (s : State) : (recover s).saveEl = s.saveEl := rfl
@[simp] theorem recover_curIdx (s : State) : (recover s).curIdx = BitVec.ofNat 7 (currentSlot s) := rfl
@[simp] theorem recover_curSeq (s : State) : (recover s).curSeq = slotSeq s (currentSlot s) := rfl
@[simp] theorem recover_curPay (s : State) : (recover s).curPay = slotPayload s (currentSlot s) := rfl
@[simp] theorem recover_nvValid (s : State) : (recover s).nvValid = true := rfl
@[simp] theorem recover_nv (s : State) : (recover s).nv = s.nv := rfl
@[simp] theorem recover_params (s : State) : (recover s).params = s.params := rfl
@[simp] theorem recover_inbox (s : State) : (recover s).inbox = s.inbox := rfl
@[simp] theorem recover_rsp (s : State) : (recover s).rsp = s.rsp := rfl

/-! ### clearVolatile -/

@[simp] theorem clearVolatile_mask (s : State) : (clearVolatile s).mask = 0#12 := rfl
@[simp] theorem clearVolatile_row (s : State) : (clearVolatile s).row = 0 := rfl
@[simp] theorem clearVolatile_col (s : State) : (clearVolatile s).col = 0 := rfl
@[simp] theorem clearVolatile_ledIdx (s : State) : (clearVolatile s).ledIdx = 0 := rfl
@[simp] theorem clearVolatile_hist (s : State) : (clearVolatile s).hist = Vector.replicate 12 0#8 := rfl
@[simp] theorem clearVolatile_pressed (s : State) : (clearVolatile s).pressed = 0#12 := rfl
@[simp] theorem clearVolatile_touch (s : State) : (clearVolatile s).touch = false := rfl
@[simp] theorem clearVolatile_ledPin (s : State) : (clearVolatile s).ledPin = Vector.replicate 6 .z := rfl
@[simp] theorem clearVolatile_filtAcc (s : State) : (clearVolatile s).filtAcc = 0#32 := rfl
@[simp] theorem clearVolatile_prevAcc (s : State) : (clearVolatile s).prevAcc = 0#16 := rfl
@[simp] theorem clearVolatile_prevEmit (s : State) : (clearVolatile s).prevEmit = 0#16 := rfl
@[simp] theorem clearVolatile_emitValid (s : State) : (clearVolatile s).emitValid = false := rfl
@[simp] theorem clearVolatile_sound (s : State) : (clearVolatile s).sound = 0xF#4 := rfl
@[simp] theorem clearVolatile_dacCode (s : State) : (clearVolatile s).dacCode = 0#16 := rfl
@[simp] theorem clearVolatile_gate (s : State) : (clearVolatile s).gate = false := rfl
@[simp] theorem clearVolatile_gateCnt (s : State) : (clearVolatile s).gateCnt = 0#32 := rfl
@[simp] theorem clearVolatile_gateSt (s : State) : (clearVolatile s).gateSt = .idle := rfl
@[simp] theorem clearVolatile_saveCnt (s : State) : (clearVolatile s).saveCnt = 0#32 := rfl
@[simp] theorem clearVolatile_saveSt (s : State) : (clearVolatile s).saveSt = .idle := rfl
@[simp] theorem clearVolatile_saveEl (s : State) : (clearVolatile s).saveEl = false := rfl
@[simp] theorem clearVolatile_curIdx (s : State) : (clearVolatile s).curIdx = 0#7 := rfl
@[simp] theorem clearVolatile_curSeq (s : State) : (clearVolatile s).curSeq = 0#8 := rfl
@[simp] theorem clearVolatile_curPay (s : State) : (clearVolatile s).curPay = 0#12 := rfl
@[simp] theorem clearVolatile_nvValid (s : State) : (clearVolatile s).nvValid = false := rfl
@[simp] theorem clearVolatile_nv (s : State) : (clearVolatile s).nv = s.nv := rfl
@[simp] theorem clearVolatile_params (s : State) : (clearVolatile s).params = s.params := rfl
@[simp] theorem clearVolatile_inbox (s : State) : (clearVolatile s).inbox = s.inbox := rfl
@[simp] theorem clearVolatile_rsp (s : State) : (clearVolatile s).rsp = none := rfl

/-! ### State.powerOn -/

@[simp] theorem State.powerOn_mask (p : Config.Params) (nv : Memory) : (State.powerOn p nv).mask = 0#12 := rfl
@[simp] theorem State.powerOn_row (p : Config.Params) (nv : Memory) : (State.powerOn p nv).row = 0 := rfl
@[simp] theorem State.powerOn_col (p : Config.Params) (nv : Memory) : (State.powerOn p nv).col = 0 := rfl
@[simp] theorem State.powerOn_ledIdx (p : Config.Params) (nv : Memory) : (State.powerOn p nv).ledIdx = 0 := rfl
@[simp] theorem State.powerOn_hist (p : Config.Params) (nv : Memory) : (State.powerOn p nv).hist = Vector.replicate 12 0#8 := rfl
@[simp] theorem State.powerOn_pressed (p : Config.Params) (nv : Memory) : (State.powerOn p nv).pressed = 0#12 := rfl
@[simp] theorem State.powerOn_touch (p : Config.Params) (nv : Memory) : (State.powerOn p nv).touch = false := rfl
@[simp] theorem State.powerOn_ledPin (p : Config.Params) (nv : Memory) : (State.powerOn p nv).ledPin = Vector.replicate 6 .z := rfl
@[simp] theorem State.powerOn_filtAcc (p : Config.Params) (nv : Memory) : (State.powerOn p nv).filtAcc = 0#32 := rfl
@[simp] theorem State.powerOn_prevAcc (p : Config.Params) (nv : Memory) : (State.powerOn p nv).prevAcc = 0#16 := rfl
@[simp] theorem State.powerOn_prevEmit (p : Config.Params) (nv : Memory) : (State.powerOn p nv).prevEmit = 0#16 := rfl
@[simp] theorem State.powerOn_emitValid (p : Config.Params) (nv : Memory) : (State.powerOn p nv).emitValid = false := rfl
@[simp] theorem State.powerOn_sound (p : Config.Params) (nv : Memory) : (State.powerOn p nv).sound = 0xF#4 := rfl
@[simp] theorem State.powerOn_dacCode (p : Config.Params) (nv : Memory) : (State.powerOn p nv).dacCode = 0#16 := rfl
@[simp] theorem State.powerOn_gate (p : Config.Params) (nv : Memory) : (State.powerOn p nv).gate = false := rfl
@[simp] theorem State.powerOn_gateCnt (p : Config.Params) (nv : Memory) : (State.powerOn p nv).gateCnt = 0#32 := rfl
@[simp] theorem State.powerOn_gateSt (p : Config.Params) (nv : Memory) : (State.powerOn p nv).gateSt = .idle := rfl
@[simp] theorem State.powerOn_saveCnt (p : Config.Params) (nv : Memory) : (State.powerOn p nv).saveCnt = 0#32 := rfl
@[simp] theorem State.powerOn_saveSt (p : Config.Params) (nv : Memory) : (State.powerOn p nv).saveSt = .idle := rfl
@[simp] theorem State.powerOn_saveEl (p : Config.Params) (nv : Memory) : (State.powerOn p nv).saveEl = false := rfl
@[simp] theorem State.powerOn_curIdx (p : Config.Params) (nv : Memory) : (State.powerOn p nv).curIdx = 0#7 := rfl
@[simp] theorem State.powerOn_curSeq (p : Config.Params) (nv : Memory) : (State.powerOn p nv).curSeq = 0#8 := rfl
@[simp] theorem State.powerOn_curPay (p : Config.Params) (nv : Memory) : (State.powerOn p nv).curPay = 0#12 := rfl
@[simp] theorem State.powerOn_nvValid (p : Config.Params) (nv : Memory) : (State.powerOn p nv).nvValid = false := rfl
@[simp] theorem State.powerOn_nv (p : Config.Params) (nv : Memory) : (State.powerOn p nv).nv = nv := rfl
@[simp] theorem State.powerOn_params (p : Config.Params) (nv : Memory) : (State.powerOn p nv).params = p := rfl
@[simp] theorem State.powerOn_inbox (p : Config.Params) (nv : Memory) : (State.powerOn p nv).inbox = [] := rfl
@[simp] theorem State.powerOn_rsp (p : Config.Params) (nv : Memory) : (State.powerOn p nv).rsp = none := rfl

/-! ### deliver -/

@[simp] theorem deliver_mask (cmd : Word) (s : State) : (deliver cmd s).mask = s.mask := rfl
@[simp] theorem deliver_row (cmd : Word) (s : State) : (deliver cmd s).row = s.row := rfl
@[simp] theorem deliver_col (cmd : Word) (s : State) : (deliver cmd s).col = s.col := rfl
@[simp] theorem deliver_ledIdx (cmd : Word) (s : State) : (deliver cmd s).ledIdx = s.ledIdx := rfl
@[simp] theorem deliver_hist (cmd : Word) (s : State) : (deliver cmd s).hist = s.hist := rfl
@[simp] theorem deliver_pressed (cmd : Word) (s : State) : (deliver cmd s).pressed = s.pressed := rfl
@[simp] theorem deliver_touch (cmd : Word) (s : State) : (deliver cmd s).touch = s.touch := rfl
@[simp] theorem deliver_ledPin (cmd : Word) (s : State) : (deliver cmd s).ledPin = s.ledPin := rfl
@[simp] theorem deliver_filtAcc (cmd : Word) (s : State) : (deliver cmd s).filtAcc = s.filtAcc := rfl
@[simp] theorem deliver_prevAcc (cmd : Word) (s : State) : (deliver cmd s).prevAcc = s.prevAcc := rfl
@[simp] theorem deliver_prevEmit (cmd : Word) (s : State) : (deliver cmd s).prevEmit = s.prevEmit := rfl
@[simp] theorem deliver_emitValid (cmd : Word) (s : State) : (deliver cmd s).emitValid = s.emitValid := rfl
@[simp] theorem deliver_sound (cmd : Word) (s : State) : (deliver cmd s).sound = s.sound := rfl
@[simp] theorem deliver_dacCode (cmd : Word) (s : State) : (deliver cmd s).dacCode = s.dacCode := rfl
@[simp] theorem deliver_gate (cmd : Word) (s : State) : (deliver cmd s).gate = s.gate := rfl
@[simp] theorem deliver_gateCnt (cmd : Word) (s : State) : (deliver cmd s).gateCnt = s.gateCnt := rfl
@[simp] theorem deliver_gateSt (cmd : Word) (s : State) : (deliver cmd s).gateSt = s.gateSt := rfl
@[simp] theorem deliver_saveCnt (cmd : Word) (s : State) : (deliver cmd s).saveCnt = s.saveCnt := rfl
@[simp] theorem deliver_saveSt (cmd : Word) (s : State) : (deliver cmd s).saveSt = s.saveSt := rfl
@[simp] theorem deliver_saveEl (cmd : Word) (s : State) : (deliver cmd s).saveEl = s.saveEl := rfl
@[simp] theorem deliver_curIdx (cmd : Word) (s : State) : (deliver cmd s).curIdx = s.curIdx := rfl
@[simp] theorem deliver_curSeq (cmd : Word) (s : State) : (deliver cmd s).curSeq = s.curSeq := rfl
@[simp] theorem deliver_curPay (cmd : Word) (s : State) : (deliver cmd s).curPay = s.curPay := rfl
@[simp] theorem deliver_nvValid (cmd : Word) (s : State) : (deliver cmd s).nvValid = s.nvValid := rfl
@[simp] theorem deliver_nv (cmd : Word) (s : State) : (deliver cmd s).nv = s.nv := rfl
@[simp] theorem deliver_params (cmd : Word) (s : State) : (deliver cmd s).params = s.params := rfl
@[simp] theorem deliver_inbox (cmd : Word) (s : State) : (deliver cmd s).inbox = .event cmd :: s.inbox := rfl
@[simp] theorem deliver_rsp (cmd : Word) (s : State) : (deliver cmd s).rsp = s.rsp := rfl

/-! ### buttonStep -/

@[simp] theorem buttonStep_mask (lvl : Bool) (s : State) : (buttonStep lvl s).mask = if (buttonDebounce lvl s).edge then s.mask ^^^ noteBit (buttonIndex s.row s.col) else s.mask := rfl
@[simp] theorem buttonStep_row (lvl : Bool) (s : State) : (buttonStep lvl s).row = (advanceScan s.row s.col).1 := rfl
@[simp] theorem buttonStep_col (lvl : Bool) (s : State) : (buttonStep lvl s).col = (advanceScan s.row s.col).2 := rfl
@[simp] theorem buttonStep_ledIdx (lvl : Bool) (s : State) : (buttonStep lvl s).ledIdx = s.ledIdx := rfl
@[simp] theorem buttonStep_hist (lvl : Bool) (s : State) : (buttonStep lvl s).hist = s.hist.set (buttonIndex s.row s.col) (buttonDebounce lvl s).hist := rfl
@[simp] theorem buttonStep_pressed (lvl : Bool) (s : State) : (buttonStep lvl s).pressed = putBit s.pressed (buttonIndex s.row s.col) (buttonDebounce lvl s).pressed := rfl
@[simp] theorem buttonStep_touch (lvl : Bool) (s : State) : (buttonStep lvl s).touch = (s.touch || (buttonDebounce lvl s).edge) := rfl
@[simp] theorem buttonStep_ledPin (lvl : Bool) (s : State) : (buttonStep lvl s).ledPin = s.ledPin := rfl
@[simp] theorem buttonStep_filtAcc (lvl : Bool) (s : State) : (buttonStep lvl s).filtAcc = s.filtAcc := rfl
@[simp] theorem buttonStep_prevAcc (lvl : Bool) (s : State) : (buttonStep lvl s).prevAcc = s.prevAcc := rfl
@[simp] theorem buttonStep_prevEmit (lvl : Bool) (s : State) : (buttonStep lvl s).prevEmit = s.prevEmit := rfl
@[simp] theorem buttonStep_emitValid (lvl : Bool) (s : State) : (buttonStep lvl s).emitValid = s.emitValid := rfl
@[simp] theorem buttonStep_sound (lvl : Bool) (s : State) : (buttonStep lvl s).sound = s.sound := rfl
@[simp] theorem buttonStep_dacCode (lvl : Bool) (s : State) : (buttonStep lvl s).dacCode = s.dacCode := rfl
@[simp] theorem buttonStep_gate (lvl : Bool) (s : State) : (buttonStep lvl s).gate = s.gate := rfl
@[simp] theorem buttonStep_gateCnt (lvl : Bool) (s : State) : (buttonStep lvl s).gateCnt = s.gateCnt := rfl
@[simp] theorem buttonStep_gateSt (lvl : Bool) (s : State) : (buttonStep lvl s).gateSt = s.gateSt := rfl
@[simp] theorem buttonStep_saveCnt (lvl : Bool) (s : State) : (buttonStep lvl s).saveCnt = s.saveCnt := rfl
@[simp] theorem buttonStep_saveSt (lvl : Bool) (s : State) : (buttonStep lvl s).saveSt = s.saveSt := rfl
@[simp] theorem buttonStep_saveEl (lvl : Bool) (s : State) : (buttonStep lvl s).saveEl = s.saveEl := rfl
@[simp] theorem buttonStep_curIdx (lvl : Bool) (s : State) : (buttonStep lvl s).curIdx = s.curIdx := rfl
@[simp] theorem buttonStep_curSeq (lvl : Bool) (s : State) : (buttonStep lvl s).curSeq = s.curSeq := rfl
@[simp] theorem buttonStep_curPay (lvl : Bool) (s : State) : (buttonStep lvl s).curPay = s.curPay := rfl
@[simp] theorem buttonStep_nvValid (lvl : Bool) (s : State) : (buttonStep lvl s).nvValid = s.nvValid := rfl
@[simp] theorem buttonStep_nv (lvl : Bool) (s : State) : (buttonStep lvl s).nv = s.nv := rfl
@[simp] theorem buttonStep_params (lvl : Bool) (s : State) : (buttonStep lvl s).params = s.params := rfl
@[simp] theorem buttonStep_inbox (lvl : Bool) (s : State) : (buttonStep lvl s).inbox = s.inbox := rfl
@[simp] theorem buttonStep_rsp (lvl : Bool) (s : State) : (buttonStep lvl s).rsp = s.rsp := rfl

/-! ### blankPins -/

@[simp] theorem blankPins_mask (s : State) : (blankPins s).mask = s.mask := rfl
@[simp] theorem blankPins_row (s : State) : (blankPins s).row = s.row := rfl
@[simp] theorem blankPins_col (s : State) : (blankPins s).col = s.col := rfl
@[simp] theorem blankPins_ledIdx (s : State) : (blankPins s).ledIdx = s.ledIdx := rfl
@[simp] theorem blankPins_hist (s : State) : (blankPins s).hist = s.hist := rfl
@[simp] theorem blankPins_pressed (s : State) : (blankPins s).pressed = s.pressed := rfl
@[simp] theorem blankPins_touch (s : State) : (blankPins s).touch = s.touch := rfl
@[simp] theorem blankPins_ledPin (s : State) : (blankPins s).ledPin = Vector.replicate 6 .z := rfl
@[simp] theorem blankPins_filtAcc (s : State) : (blankPins s).filtAcc = s.filtAcc := rfl
@[simp] theorem blankPins_prevAcc (s : State) : (blankPins s).prevAcc = s.prevAcc := rfl
@[simp] theorem blankPins_prevEmit (s : State) : (blankPins s).prevEmit = s.prevEmit := rfl
@[simp] theorem blankPins_emitValid (s : State) : (blankPins s).emitValid = s.emitValid := rfl
@[simp] theorem blankPins_sound (s : State) : (blankPins s).sound = s.sound := rfl
@[simp] theorem blankPins_dacCode (s : State) : (blankPins s).dacCode = s.dacCode := rfl
@[simp] theorem blankPins_gate (s : State) : (blankPins s).gate = s.gate := rfl
@[simp] theorem blankPins_gateCnt (s : State) : (blankPins s).gateCnt = s.gateCnt := rfl
@[simp] theorem blankPins_gateSt (s : State) : (blankPins s).gateSt = s.gateSt := rfl
@[simp] theorem blankPins_saveCnt (s : State) : (blankPins s).saveCnt = s.saveCnt := rfl
@[simp] theorem blankPins_saveSt (s : State) : (blankPins s).saveSt = s.saveSt := rfl
@[simp] theorem blankPins_saveEl (s : State) : (blankPins s).saveEl = s.saveEl := rfl
@[simp] theorem blankPins_curIdx (s : State) : (blankPins s).curIdx = s.curIdx := rfl
@[simp] theorem blankPins_curSeq (s : State) : (blankPins s).curSeq = s.curSeq := rfl
@[simp] theorem blankPins_curPay (s : State) : (blankPins s).curPay = s.curPay := rfl
@[simp] theorem blankPins_nvValid (s : State) : (blankPins s).nvValid = s.nvValid := rfl
@[simp] theorem blankPins_nv (s : State) : (blankPins s).nv = s.nv := rfl
@[simp] theorem blankPins_params (s : State) : (blankPins s).params = s.params := rfl
@[simp] theorem blankPins_inbox (s : State) : (blankPins s).inbox = s.inbox := rfl
@[simp] theorem blankPins_rsp (s : State) : (blankPins s).rsp = s.rsp := rfl

/-! ### ledShow -/

@[simp] theorem ledShow_mask (s : State) : (ledShow s).mask = s.mask := rfl
@[simp] theorem ledShow_row (s : State) : (ledShow s).row = s.row := rfl
@[simp] theorem ledShow_col (s : State) : (ledShow s).col = s.col := rfl
@[simp] theorem ledShow_ledIdx (s : State) : (ledShow s).ledIdx = advanceLed s.ledIdx := rfl
@[simp] theorem ledShow_hist (s : State) : (ledShow s).hist = s.hist := rfl
@[simp] theorem ledShow_pressed (s : State) : (ledShow s).pressed = s.pressed := rfl
@[simp] theorem ledShow_touch (s : State) : (ledShow s).touch = s.touch := rfl
@[simp] theorem ledShow_ledPin (s : State) : (ledShow s).ledPin = drivePins s.params.ledPins[s.ledIdx] (ledColour s s.ledIdx) := rfl
@[simp] theorem ledShow_filtAcc (s : State) : (ledShow s).filtAcc = s.filtAcc := rfl
@[simp] theorem ledShow_prevAcc (s : State) : (ledShow s).prevAcc = s.prevAcc := rfl
@[simp] theorem ledShow_prevEmit (s : State) : (ledShow s).prevEmit = s.prevEmit := rfl
@[simp] theorem ledShow_emitValid (s : State) : (ledShow s).emitValid = s.emitValid := rfl
@[simp] theorem ledShow_sound (s : State) : (ledShow s).sound = s.sound := rfl
@[simp] theorem ledShow_dacCode (s : State) : (ledShow s).dacCode = s.dacCode := rfl
@[simp] theorem ledShow_gate (s : State) : (ledShow s).gate = s.gate := rfl
@[simp] theorem ledShow_gateCnt (s : State) : (ledShow s).gateCnt = s.gateCnt := rfl
@[simp] theorem ledShow_gateSt (s : State) : (ledShow s).gateSt = s.gateSt := rfl
@[simp] theorem ledShow_saveCnt (s : State) : (ledShow s).saveCnt = s.saveCnt := rfl
@[simp] theorem ledShow_saveSt (s : State) : (ledShow s).saveSt = s.saveSt := rfl
@[simp] theorem ledShow_saveEl (s : State) : (ledShow s).saveEl = s.saveEl := rfl
@[simp] theorem ledShow_curIdx (s : State) : (ledShow s).curIdx = s.curIdx := rfl
@[simp] theorem ledShow_curSeq (s : State) : (ledShow s).curSeq = s.curSeq := rfl
@[simp] theorem ledShow_curPay (s : State) : (ledShow s).curPay = s.curPay := rfl
@[simp] theorem ledShow_nvValid (s : State) : (ledShow s).nvValid = s.nvValid := rfl
@[simp] theorem ledShow_nv (s : State) : (ledShow s).nv = s.nv := rfl
@[simp] theorem ledShow_params (s : State) : (ledShow s).params = s.params := rfl
@[simp] theorem ledShow_inbox (s : State) : (ledShow s).inbox = s.inbox := rfl
@[simp] theorem ledShow_rsp (s : State) : (ledShow s).rsp = s.rsp := rfl

/-! ### tickFilter -/

@[simp] theorem tickFilter_mask (x : Sample) (s : State) : (tickFilter x s).mask = s.mask := rfl
@[simp] theorem tickFilter_row (x : Sample) (s : State) : (tickFilter x s).row = s.row := rfl
@[simp] theorem tickFilter_col (x : Sample) (s : State) : (tickFilter x s).col = s.col := rfl
@[simp] theorem tickFilter_ledIdx (x : Sample) (s : State) : (tickFilter x s).ledIdx = s.ledIdx := rfl
@[simp] theorem tickFilter_hist (x : Sample) (s : State) : (tickFilter x s).hist = s.hist := rfl
@[simp] theorem tickFilter_pressed (x : Sample) (s : State) : (tickFilter x s).pressed = s.pressed := rfl
@[simp] theorem tickFilter_touch (x : Sample) (s : State) : (tickFilter x s).touch = s.touch := rfl
@[simp] theorem tickFilter_ledPin (x : Sample) (s : State) : (tickFilter x s).ledPin = s.ledPin := rfl
@[simp] theorem tickFilter_filtAcc (x : Sample) (s : State) : (tickFilter x s).filtAcc = filterNext s.params.filterK s.filtAcc x := rfl
@[simp] theorem tickFilter_prevAcc (x : Sample) (s : State) : (tickFilter x s).prevAcc = s.prevAcc := rfl
@[simp] theorem tickFilter_prevEmit (x : Sample) (s : State) : (tickFilter x s).prevEmit = s.prevEmit := rfl
@[simp] theorem tickFilter_emitValid (x : Sample) (s : State) : (tickFilter x s).emitValid = s.emitValid := rfl
@[simp] theorem tickFilter_sound (x : Sample) (s : State) : (tickFilter x s).sound = s.sound := rfl
@[simp] theorem tickFilter_dacCode (x : Sample) (s : State) : (tickFilter x s).dacCode = s.dacCode := rfl
@[simp] theorem tickFilter_gate (x : Sample) (s : State) : (tickFilter x s).gate = s.gate := rfl
@[simp] theorem tickFilter_gateCnt (x : Sample) (s : State) : (tickFilter x s).gateCnt = s.gateCnt := rfl
@[simp] theorem tickFilter_gateSt (x : Sample) (s : State) : (tickFilter x s).gateSt = s.gateSt := rfl
@[simp] theorem tickFilter_saveCnt (x : Sample) (s : State) : (tickFilter x s).saveCnt = s.saveCnt := rfl
@[simp] theorem tickFilter_saveSt (x : Sample) (s : State) : (tickFilter x s).saveSt = s.saveSt := rfl
@[simp] theorem tickFilter_saveEl (x : Sample) (s : State) : (tickFilter x s).saveEl = s.saveEl := rfl
@[simp] theorem tickFilter_curIdx (x : Sample) (s : State) : (tickFilter x s).curIdx = s.curIdx := rfl
@[simp] theorem tickFilter_curSeq (x : Sample) (s : State) : (tickFilter x s).curSeq = s.curSeq := rfl
@[simp] theorem tickFilter_curPay (x : Sample) (s : State) : (tickFilter x s).curPay = s.curPay := rfl
@[simp] theorem tickFilter_nvValid (x : Sample) (s : State) : (tickFilter x s).nvValid = s.nvValid := rfl
@[simp] theorem tickFilter_nv (x : Sample) (s : State) : (tickFilter x s).nv = s.nv := rfl
@[simp] theorem tickFilter_params (x : Sample) (s : State) : (tickFilter x s).params = s.params := rfl
@[simp] theorem tickFilter_inbox (x : Sample) (s : State) : (tickFilter x s).inbox = s.inbox := rfl
@[simp] theorem tickFilter_rsp (x : Sample) (s : State) : (tickFilter x s).rsp = s.rsp := rfl

/-! ### tickSilence -/

@[simp] theorem tickSilence_mask (s : State) : (tickSilence s).mask = s.mask := rfl
@[simp] theorem tickSilence_row (s : State) : (tickSilence s).row = s.row := rfl
@[simp] theorem tickSilence_col (s : State) : (tickSilence s).col = s.col := rfl
@[simp] theorem tickSilence_ledIdx (s : State) : (tickSilence s).ledIdx = s.ledIdx := rfl
@[simp] theorem tickSilence_hist (s : State) : (tickSilence s).hist = s.hist := rfl
@[simp] theorem tickSilence_pressed (s : State) : (tickSilence s).pressed = s.pressed := rfl
@[simp] theorem tickSilence_touch (s : State) : (tickSilence s).touch = s.touch := rfl
@[simp] theorem tickSilence_ledPin (s : State) : (tickSilence s).ledPin = s.ledPin := rfl
@[simp] theorem tickSilence_filtAcc (s : State) : (tickSilence s).filtAcc = s.filtAcc := rfl
@[simp] theorem tickSilence_prevAcc (s : State) : (tickSilence s).prevAcc = s.prevAcc := rfl
@[simp] theorem tickSilence_prevEmit (s : State) : (tickSilence s).prevEmit = 0#16 := rfl
@[simp] theorem tickSilence_emitValid (s : State) : (tickSilence s).emitValid = false := rfl
@[simp] theorem tickSilence_sound (s : State) : (tickSilence s).sound = 0xF#4 := rfl
@[simp] theorem tickSilence_dacCode (s : State) : (tickSilence s).dacCode = s.dacCode := rfl
@[simp] theorem tickSilence_gate (s : State) : (tickSilence s).gate = s.gate := rfl
@[simp] theorem tickSilence_gateCnt (s : State) : (tickSilence s).gateCnt = s.gateCnt := rfl
@[simp] theorem tickSilence_gateSt (s : State) : (tickSilence s).gateSt = s.gateSt := rfl
@[simp] theorem tickSilence_saveCnt (s : State) : (tickSilence s).saveCnt = s.saveCnt := rfl
@[simp] theorem tickSilence_saveSt (s : State) : (tickSilence s).saveSt = s.saveSt := rfl
@[simp] theorem tickSilence_saveEl (s : State) : (tickSilence s).saveEl = s.saveEl := rfl
@[simp] theorem tickSilence_curIdx (s : State) : (tickSilence s).curIdx = s.curIdx := rfl
@[simp] theorem tickSilence_curSeq (s : State) : (tickSilence s).curSeq = s.curSeq := rfl
@[simp] theorem tickSilence_curPay (s : State) : (tickSilence s).curPay = s.curPay := rfl
@[simp] theorem tickSilence_nvValid (s : State) : (tickSilence s).nvValid = s.nvValid := rfl
@[simp] theorem tickSilence_nv (s : State) : (tickSilence s).nv = s.nv := rfl
@[simp] theorem tickSilence_params (s : State) : (tickSilence s).params = s.params := rfl
@[simp] theorem tickSilence_inbox (s : State) : (tickSilence s).inbox = s.inbox := rfl
@[simp] theorem tickSilence_rsp (s : State) : (tickSilence s).rsp = s.rsp := rfl

/-! ### emitPitch -/

@[simp] theorem emitPitch_mask (p : Int) (s : State) : (emitPitch p s).mask = s.mask := rfl
@[simp] theorem emitPitch_row (p : Int) (s : State) : (emitPitch p s).row = s.row := rfl
@[simp] theorem emitPitch_col (p : Int) (s : State) : (emitPitch p s).col = s.col := rfl
@[simp] theorem emitPitch_ledIdx (p : Int) (s : State) : (emitPitch p s).ledIdx = s.ledIdx := rfl
@[simp] theorem emitPitch_hist (p : Int) (s : State) : (emitPitch p s).hist = s.hist := rfl
@[simp] theorem emitPitch_pressed (p : Int) (s : State) : (emitPitch p s).pressed = s.pressed := rfl
@[simp] theorem emitPitch_touch (p : Int) (s : State) : (emitPitch p s).touch = s.touch := rfl
@[simp] theorem emitPitch_ledPin (p : Int) (s : State) : (emitPitch p s).ledPin = s.ledPin := rfl
@[simp] theorem emitPitch_filtAcc (p : Int) (s : State) : (emitPitch p s).filtAcc = s.filtAcc := rfl
@[simp] theorem emitPitch_prevAcc (p : Int) (s : State) : (emitPitch p s).prevAcc = s.prevAcc := rfl
@[simp] theorem emitPitch_prevEmit (p : Int) (s : State) : (emitPitch p s).prevEmit = BitVec.ofInt 16 p := rfl
@[simp] theorem emitPitch_emitValid (p : Int) (s : State) : (emitPitch p s).emitValid = true := rfl
@[simp] theorem emitPitch_sound (p : Int) (s : State) : (emitPitch p s).sound = BitVec.ofInt 4 (noteOf p) := rfl
@[simp] theorem emitPitch_dacCode (p : Int) (s : State) : (emitPitch p s).dacCode = BitVec.ofInt 16 (Config.dacPerSemi * p) := rfl
@[simp] theorem emitPitch_gate (p : Int) (s : State) : (emitPitch p s).gate = true := rfl
@[simp] theorem emitPitch_gateCnt (p : Int) (s : State) : (emitPitch p s).gateCnt = s.params.gateTicks := rfl
@[simp] theorem emitPitch_gateSt (p : Int) (s : State) : (emitPitch p s).gateSt = .running := rfl
@[simp] theorem emitPitch_saveCnt (p : Int) (s : State) : (emitPitch p s).saveCnt = s.saveCnt := rfl
@[simp] theorem emitPitch_saveSt (p : Int) (s : State) : (emitPitch p s).saveSt = s.saveSt := rfl
@[simp] theorem emitPitch_saveEl (p : Int) (s : State) : (emitPitch p s).saveEl = s.saveEl := rfl
@[simp] theorem emitPitch_curIdx (p : Int) (s : State) : (emitPitch p s).curIdx = s.curIdx := rfl
@[simp] theorem emitPitch_curSeq (p : Int) (s : State) : (emitPitch p s).curSeq = s.curSeq := rfl
@[simp] theorem emitPitch_curPay (p : Int) (s : State) : (emitPitch p s).curPay = s.curPay := rfl
@[simp] theorem emitPitch_nvValid (p : Int) (s : State) : (emitPitch p s).nvValid = s.nvValid := rfl
@[simp] theorem emitPitch_nv (p : Int) (s : State) : (emitPitch p s).nv = s.nv := rfl
@[simp] theorem emitPitch_params (p : Int) (s : State) : (emitPitch p s).params = s.params := rfl
@[simp] theorem emitPitch_inbox (p : Int) (s : State) : (emitPitch p s).inbox = s.inbox := rfl
@[simp] theorem emitPitch_rsp (p : Int) (s : State) : (emitPitch p s).rsp = s.rsp := rfl

/-! ### tickGate -/

@[simp] theorem tickGate_mask (s : State) : (tickGate s).mask = s.mask := rfl
@[simp] theorem tickGate_row (s : State) : (tickGate s).row = s.row := rfl
@[simp] theorem tickGate_col (s : State) : (tickGate s).col = s.col := rfl
@[simp] theorem tickGate_ledIdx (s : State) : (tickGate s).ledIdx = s.ledIdx := rfl
@[simp] theorem tickGate_hist (s : State) : (tickGate s).hist = s.hist := rfl
@[simp] theorem tickGate_pressed (s : State) : (tickGate s).pressed = s.pressed := rfl
@[simp] theorem tickGate_touch (s : State) : (tickGate s).touch = s.touch := rfl
@[simp] theorem tickGate_ledPin (s : State) : (tickGate s).ledPin = s.ledPin := rfl
@[simp] theorem tickGate_filtAcc (s : State) : (tickGate s).filtAcc = s.filtAcc := rfl
@[simp] theorem tickGate_prevAcc (s : State) : (tickGate s).prevAcc = s.prevAcc := rfl
@[simp] theorem tickGate_prevEmit (s : State) : (tickGate s).prevEmit = s.prevEmit := rfl
@[simp] theorem tickGate_emitValid (s : State) : (tickGate s).emitValid = s.emitValid := rfl
@[simp] theorem tickGate_sound (s : State) : (tickGate s).sound = s.sound := rfl
@[simp] theorem tickGate_dacCode (s : State) : (tickGate s).dacCode = s.dacCode := rfl
@[simp] theorem tickGate_gate (s : State) : (tickGate s).gate = (s.gate && !(tickTimer s.gateCnt s.gateSt).expired) := rfl
@[simp] theorem tickGate_gateCnt (s : State) : (tickGate s).gateCnt = (tickTimer s.gateCnt s.gateSt).cnt := rfl
@[simp] theorem tickGate_gateSt (s : State) : (tickGate s).gateSt = (tickTimer s.gateCnt s.gateSt).st := rfl
@[simp] theorem tickGate_saveCnt (s : State) : (tickGate s).saveCnt = s.saveCnt := rfl
@[simp] theorem tickGate_saveSt (s : State) : (tickGate s).saveSt = s.saveSt := rfl
@[simp] theorem tickGate_saveEl (s : State) : (tickGate s).saveEl = s.saveEl := rfl
@[simp] theorem tickGate_curIdx (s : State) : (tickGate s).curIdx = s.curIdx := rfl
@[simp] theorem tickGate_curSeq (s : State) : (tickGate s).curSeq = s.curSeq := rfl
@[simp] theorem tickGate_curPay (s : State) : (tickGate s).curPay = s.curPay := rfl
@[simp] theorem tickGate_nvValid (s : State) : (tickGate s).nvValid = s.nvValid := rfl
@[simp] theorem tickGate_nv (s : State) : (tickGate s).nv = s.nv := rfl
@[simp] theorem tickGate_params (s : State) : (tickGate s).params = s.params := rfl
@[simp] theorem tickGate_inbox (s : State) : (tickGate s).inbox = s.inbox := rfl
@[simp] theorem tickGate_rsp (s : State) : (tickGate s).rsp = s.rsp := rfl

/-! ### tickSave -/

@[simp] theorem tickSave_mask (s : State) : (tickSave s).mask = s.mask := rfl
@[simp] theorem tickSave_row (s : State) : (tickSave s).row = s.row := rfl
@[simp] theorem tickSave_col (s : State) : (tickSave s).col = s.col := rfl
@[simp] theorem tickSave_ledIdx (s : State) : (tickSave s).ledIdx = s.ledIdx := rfl
@[simp] theorem tickSave_hist (s : State) : (tickSave s).hist = s.hist := rfl
@[simp] theorem tickSave_pressed (s : State) : (tickSave s).pressed = s.pressed := rfl
@[simp] theorem tickSave_touch (s : State) : (tickSave s).touch = s.touch := rfl
@[simp] theorem tickSave_ledPin (s : State) : (tickSave s).ledPin = s.ledPin := rfl
@[simp] theorem tickSave_filtAcc (s : State) : (tickSave s).filtAcc = s.filtAcc := rfl
@[simp] theorem tickSave_prevAcc (s : State) : (tickSave s).prevAcc = s.prevAcc := rfl
@[simp] theorem tickSave_prevEmit (s : State) : (tickSave s).prevEmit = s.prevEmit := rfl
@[simp] theorem tickSave_emitValid (s : State) : (tickSave s).emitValid = s.emitValid := rfl
@[simp] theorem tickSave_sound (s : State) : (tickSave s).sound = s.sound := rfl
@[simp] theorem tickSave_dacCode (s : State) : (tickSave s).dacCode = s.dacCode := rfl
@[simp] theorem tickSave_gate (s : State) : (tickSave s).gate = s.gate := rfl
@[simp] theorem tickSave_gateCnt (s : State) : (tickSave s).gateCnt = s.gateCnt := rfl
@[simp] theorem tickSave_gateSt (s : State) : (tickSave s).gateSt = s.gateSt := rfl
@[simp] theorem tickSave_saveCnt (s : State) : (tickSave s).saveCnt = (tickTimer s.saveCnt s.saveSt).cnt := rfl
@[simp] theorem tickSave_saveSt (s : State) : (tickSave s).saveSt = (tickTimer s.saveCnt s.saveSt).st := rfl
@[simp] theorem tickSave_saveEl (s : State) : (tickSave s).saveEl = (s.saveEl || (tickTimer s.saveCnt s.saveSt).expired) := rfl
@[simp] theorem tickSave_curIdx (s : State) : (tickSave s).curIdx = s.curIdx := rfl
@[simp] theorem tickSave_curSeq (s : State) : (tickSave s).curSeq = s.curSeq := rfl
@[simp] theorem tickSave_curPay (s : State) : (tickSave s).curPay = s.curPay := rfl
@[simp] theorem tickSave_nvValid (s : State) : (tickSave s).nvValid = s.nvValid := rfl
@[simp] theorem tickSave_nv (s : State) : (tickSave s).nv = s.nv := rfl
@[simp] theorem tickSave_params (s : State) : (tickSave s).params = s.params := rfl
@[simp] theorem tickSave_inbox (s : State) : (tickSave s).inbox = s.inbox := rfl
@[simp] theorem tickSave_rsp (s : State) : (tickSave s).rsp = s.rsp := rfl

end Sys2Proof.Machine
end

