-- ==== Sys2Proof/Laws/Memory.lean ====
section
/-! SUPPORT. The laws of the medium (spec/20_memory.md): a read after a write, the canonical form, the places
of a slot's bytes. -/

namespace Sys2Proof.Machine

@[simp] theorem memRead_nil (e : Byte) (a : Nat) : memRead e [] a = e := rfl

theorem memRead_cons (e : Byte) (b : Nat) (v : Byte) (nv : Memory) (a : Nat) :
    memRead e ((b, v) :: nv) a = if a = b then v else memRead e nv a := rfl

theorem memRead_memPut (e : Byte) (nv : Memory) (a : Nat) (v : Byte) (x : Nat) :
    memRead e (memPut nv a v) x = if x = a then v else memRead e nv x := by
  induction nv with
  | nil => simp [memPut, memRead]
  | cons c rest ih =>
    obtain ⟨b, u⟩ := c
    simp only [memPut]
    split
    · simp [memRead]
    · split
      · subst_vars
        simp only [memRead_cons]
        split <;> rfl
      · rename_i hlt hne
        simp only [memRead_cons, ih]
        by_cases h1 : x = b
        · simp [h1, Ne.symm hne]
        · simp [h1]

theorem memRead_without (e : Byte) (nv : Memory) (a x : Nat) :
    memRead e (nv.filter fun c => c.1 != a) x = if x = a then e else memRead e nv x := by
  induction nv with
  | nil => simp
  | cons c rest ih =>
    obtain ⟨b, u⟩ := c
    by_cases hb : b = a
    · subst hb
      simp only [List.filter, bne_self_eq_false, ih, memRead_cons]
      split <;> simp_all
    · have : (b != a) = true := by simpa using hb
      simp only [List.filter, this, memRead_cons, ih]
      by_cases hx : x = b
      · simp [hx, hb]
      · simp [hx]

/-- A read after a write gives the value written, and every other address reads as before. -/
theorem memRead_memWrite (e : Byte) (nv : Memory) (a : Nat) (v : Byte) (x : Nat) :
    memRead e (memWrite e nv a v) x = if x = a then v else memRead e nv x := by
  unfold memWrite
  split
  · subst_vars; exact memRead_without ..
  · exact memRead_memPut ..

theorem nvByte_nvStore (s : State) (a : Nat) (v : Byte) (x : Nat) :
    nvByte (nvStore s a v) x = if x = a then v else nvByte s x := memRead_memWrite ..

theorem mem_memPut {nv : Memory} {a : Nat} {v : Byte} {c : Host.Cell} (h : c ∈ memPut nv a v) :
    c = (a, v) ∨ c ∈ nv := by
  induction nv with
  | nil => simpa [memPut] using h
  | cons d rest ih =>
    obtain ⟨b, u⟩ := d
    simp only [memPut] at h
    split at h
    · simpa using h
    · split at h
      · rcases List.mem_cons.1 h with h | h
        · exact .inl h
        · exact .inr (List.mem_cons_of_mem _ h)
      · rcases List.mem_cons.1 h with h | h
        · exact .inr (h ▸ List.mem_cons_self)
        · exact (ih h).imp id (List.mem_cons_of_mem _)

theorem memPut_rising {nv : Memory} (h : nv.Pairwise fun c d => c.1 < d.1) (a : Nat) (v : Byte) :
    (memPut nv a v).Pairwise fun c d => c.1 < d.1 := by
  induction nv with
  | nil => simp [memPut]
  | cons d rest ih =>
    obtain ⟨b, u⟩ := d
    rw [List.pairwise_cons] at h
    simp only [memPut]
    split
    · rename_i hlt
      refine List.pairwise_cons.2 ⟨fun c hc => ?_, List.pairwise_cons.2 h⟩
      rcases List.mem_cons.1 hc with rfl | hc
      · exact hlt
      · exact lt_trans hlt (h.1 c hc)
    · split
      · subst_vars; exact List.pairwise_cons.2 h
      · refine List.pairwise_cons.2 ⟨fun c hc => ?_, ih h.2⟩
        rcases mem_memPut hc with rfl | hc
        · simp only; omega
        · exact h.1 c hc

/-- Every write inside the medium keeps the canonical form. -/
theorem memWrite_wf {e : Byte} {nv : Memory} (h : Memory.wf e nv) {a : Nat} (ha : a < 384) (v : Byte) :
    Memory.wf e (memWrite e nv a v) := by
  unfold memWrite
  split
  · exact ⟨h.1.filter _, fun c hc => h.2 c (List.mem_filter.1 hc).1⟩
  · rename_i hv
    refine ⟨memPut_rising h.1 a v, fun c hc => ?_⟩
    rcases mem_memPut hc with rfl | hc
    · exact ⟨ha, hv⟩
    · exact h.2 c hc

theorem nvStoreAll_eq (s : State) (ws : List (Nat × Byte)) :
    nvStoreAll s ws = { s with nv := (nvStoreAll s ws).nv } := by
  unfold nvStoreAll
  induction ws generalizing s with
  | nil => rfl
  | cons w rest ih => rw [List.foldl_cons, ih]; rfl

@[simp] theorem nvStoreAll_nil (s : State) : nvStoreAll s [] = s := rfl

@[simp] theorem nvStoreAll_cons (s : State) (w : Nat × Byte) (ws : List (Nat × Byte)) :
    nvStoreAll s (w :: ws) = nvStoreAll (nvStore s w.1 w.2) ws := rfl

theorem nvStoreAll_wf {s : State} (h : Memory.wf s.params.nvErased s.nv) {ws : List (Nat × Byte)}
    (hws : ∀ w ∈ ws, w.1 < 384) : Memory.wf s.params.nvErased (nvStoreAll s ws).nv := by
  induction ws generalizing s with
  | nil => exact h
  | cons w rest ih =>
    exact ih (s := nvStore s w.1 w.2) (memWrite_wf h (hws w List.mem_cons_self) _)
      fun x hx => hws x (List.mem_cons_of_mem _ hx)

/-- A byte that no write of the list is at reads as before. -/
theorem nvByte_nvStoreAll_other (s : State) (ws : List (Nat × Byte)) (x : Nat) (h : ∀ w ∈ ws, w.1 ≠ x) :
    nvByte (nvStoreAll s ws) x = nvByte s x := by
  induction ws generalizing s with
  | nil => rfl
  | cons w rest ih =>
    rw [nvStoreAll_cons, ih _ fun y hy => h y (List.mem_cons_of_mem _ hy), nvByte_nvStore,
      if_neg (Ne.symm (h w List.mem_cons_self))]

/-- States with the same erased byte and the same medium read alike. -/
theorem nvByte_congr {s t : State} (hp : t.params.nvErased = s.params.nvErased) (hn : t.nv = s.nv) (a : Nat) :
    nvByte t a = nvByte s a := by simp [nvByte, hp, hn]

theorem slotAddr_eq (k f : Nat) : slotAddr k f = 3 * k + f := by simp [slotAddr]

/-- Every slot write stays inside the medium. -/
theorem slotWrites_inside (s : State) (mask : NoteMask) : ∀ w ∈ slotWrites s mask, w.1 < 384 := by
  have := (nextSlot s).isLt
  intro w hw
  simp only [slotWrites, List.mem_cons, List.not_mem_nil, or_false] at hw
  rcases hw with rfl | rfl | rfl <;> simp only [slotAddr_eq] <;> omega

end Sys2Proof.Machine
end

