-- ==== Sys2Proof/Laws/Log.lean ====
section
/-! SUPPORT. What recovery and a slot write can do (spec/43_persistence_log.md R151, R155, R160; spec/60_exceptions.md
R220), each said once: where the walk ends, what a written slot reads as, and how a whole or a torn write moves
the run that recovery finds. -/

namespace Sys2Proof.Machine

open Sys2Proof.Safety

/-! ### Slots read the medium alone -/

theorem slotSeq_congr {s t : State} (h : ∀ a, nvByte t a = nvByte s a) (k : Nat) : slotSeq t k = slotSeq s k :=
  h _

theorem slotPayload_congr {s t : State} (h : ∀ a, nvByte t a = nvByte s a) (k : Nat) :
    slotPayload t k = slotPayload s k := by simp [slotPayload, h]

/-- The payload of a slot as a number: the low byte, and the low half of the byte above it. -/
theorem slotPayload_toNat (s : State) (k : Nat) :
    (slotPayload s k).toNat = (nvByte s (3 * k)).toNat + 256 * ((nvByte s (3 * k + 1)).toNat % 16) := by
  have h0 := (nvByte s (3 * k)).isLt
  have h1 := (nvByte s (3 * k + 1)).isLt
  simp only [slotPayload, slotAddr_eq, Nat.add_zero, BitVec.extractLsb'_toNat, BitVec.toNat_append,
    Nat.shiftRight_zero, Nat.shiftLeft_eq]
  rw [← Nat.shiftLeft_eq, ← Nat.shiftLeft_add_eq_or_of_lt h0, Nat.shiftLeft_eq]
  omega

/-! ### The walk -/

/-- Where the walk from slot `k` ends: at the last slot of the run that starts there, or out of fuel. -/
theorem walk_spec (s : State) (fuel k : Nat) :
    k ≤ walk s fuel k ∧ walk s fuel k ≤ k + fuel ∧
    (∀ j, k ≤ j → j < walk s fuel k → slotSeq s (j + 1) = slotSeq s j + 1#8) ∧
    (walk s fuel k < k + fuel → slotSeq s (walk s fuel k + 1) ≠ slotSeq s (walk s fuel k) + 1#8) := by
  induction fuel generalizing k with
  | zero => exact ⟨le_rfl, le_rfl, fun j h h' => absurd h' (by simp [walk]; omega), fun h => absurd h (by simp [walk])⟩
  | succ n ih =>
    by_cases hk : slotSeq s (k + 1) = slotSeq s k + 1#8
    · simp only [walk, if_pos hk]
      obtain ⟨h1, h2, h3, h4⟩ := ih (k + 1)
      refine ⟨by omega, by omega, fun j h h' => ?_, fun h => h4 (by omega)⟩
      rcases Nat.eq_or_lt_of_le h with rfl | h
      · exact hk
      · exact h3 j h h'
    · simp only [walk, if_neg hk]
      exact ⟨le_rfl, by omega, fun j h h' => by omega, fun _ => hk⟩

/-- The walk reads the sequence bytes alone. -/
theorem walk_congr {s t : State} (h : ∀ k, slotSeq t k = slotSeq s k) (fuel k : Nat) :
    walk t fuel k = walk s fuel k := by
  induction fuel generalizing k with
  | zero => rfl
  | succ n ih => simp [walk, h, ih]

theorem currentSlot_lt (s : State) : currentSlot s < 128 := by
  have := (walk_spec s 127 0).2.1
  change walk s 127 0 < 128
  omega

/-- The current slot ends the longest run of consecutive sequence numbers from slot 0
(43_persistence_log.md R160). -/
theorem currentSlot_spec (s : State) :
    (∀ j, j < currentSlot s → slotSeq s (j + 1) = slotSeq s j + 1#8) ∧
    (currentSlot s < 127 → slotSeq s (currentSlot s + 1) ≠ slotSeq s (currentSlot s) + 1#8) := by
  obtain ⟨-, -, h1, h2⟩ := walk_spec s 127 0
  exact ⟨fun j h => h1 j (by omega) h, fun h => h2 (by simpa [currentSlot, Config.ringN] using h)⟩

/-- The slot that ends the longest run from slot 0 is the current one. -/
theorem currentSlot_eq {s : State} {k : Nat} (hk : k < 128)
    (h1 : ∀ j, j < k → slotSeq s (j + 1) = slotSeq s j + 1#8)
    (h2 : k < 127 → slotSeq s (k + 1) ≠ slotSeq s k + 1#8) : currentSlot s = k := by
  obtain ⟨g1, g2⟩ := currentSlot_spec s
  have := currentSlot_lt s
  rcases Nat.lt_trichotomy (currentSlot s) k with h | h | h
  · exact absurd (h1 _ h) (g2 (by omega))
  · exact h
  · exact absurd (g1 _ h) (h2 (by omega))

@[simp] theorem recover_curIdx_toNat (s : State) : (recover s).curIdx.toNat = currentSlot s := by
  have := currentSlot_lt s
  simp; omega

/-- On a medium with a run that no later slot carries on, recovery finds the end of the run. -/
theorem currentSlot_of_run {s : State} {k : Nat} {b : BitVec 8} (h : RunEndsAt s k b) : currentSlot s = k := by
  obtain ⟨hk, hrun, hend⟩ := h
  refine currentSlot_eq hk (fun j hj => ?_) fun hk' => ?_
  · rw [hrun _ (by omega), hrun _ (by omega)]; bv_omega
  · rw [hrun k le_rfl]
    have := hend (k + 1) (by omega) (by simp only [Config.ringN]; omega)
    intro hc; apply this; rw [hc]; bv_omega

/-! ### A slot write -/

theorem nextSlot_toNat (s : State) : (nextSlot s).toNat = (s.curIdx.toNat + 1) % 128 := by
  simp [nextSlot, BitVec.toNat_add]

/-- What the medium reads as after the first `j` bytes of a slot write, and `g` in the next, if any. -/
theorem nvByte_tornWrites (s : State) (mask : NoteMask) (j : Nat) (hj : j ≤ 3) (g : Option Byte) (a : Nat) :
    nvByte (nvStoreAll s (tornWrites (slotWrites s mask) j g)) a =
      if a = 3 * (nextSlot s).toNat + j ∧ j ≤ 2 ∧ g.isSome then g.getD 0#8
      else if a = 3 * (nextSlot s).toNat ∧ 0 < j then mask.extractLsb' 0 8
      else if a = 3 * (nextSlot s).toNat + 1 ∧ 1 < j then 0#4 ++ mask.extractLsb' 8 4
      else if a = 3 * (nextSlot s).toNat + 2 ∧ 2 < j then s.curSeq + 1#8
      else nvByte s a := by
  generalize hn : (nextSlot s).toNat = n
  interval_cases j <;> cases g <;>
    simp [tornWrites, slotWrites, hn, slotAddr_eq, nvByte_nvStore] <;> grind

/-- What the medium reads as after a whole slot write. -/
theorem nvByte_slotWrites (s : State) (mask : NoteMask) (a : Nat) :
    nvByte (nvStoreAll s (slotWrites s mask)) a =
      if a = 3 * (nextSlot s).toNat then mask.extractLsb' 0 8
      else if a = 3 * (nextSlot s).toNat + 1 then 0#4 ++ mask.extractLsb' 8 4
      else if a = 3 * (nextSlot s).toNat + 2 then s.curSeq + 1#8
      else nvByte s a := by
  have := nvByte_tornWrites s mask 3 (by omega) none a
  simpa [tornWrites, slotWrites] using this

theorem nvByte_appendSlot (mask : NoteMask) (s : State) (a : Nat) :
    nvByte (appendSlot mask s) a = nvByte (nvStoreAll s (slotWrites s mask)) a := by
  refine nvByte_congr ?_ ?_ a <;> rfl

/-- A slot write, field by field: the medium and the log registers only. -/
theorem appendSlot_frame (mask : NoteMask) (s : State) :
    appendSlot mask s = { s with
      nv := (appendSlot mask s).nv, curIdx := nextSlot s, curSeq := s.curSeq + 1#8, curPay := mask } := by
  conv_lhs => rw [appendSlot, nvStoreAll_eq]
  rfl

/-- A mask write, field by field, whether or not it is suppressed. -/
theorem writeMask_frame (mask : NoteMask) (s : State) :
    writeMask mask s = { s with
      nv := (writeMask mask s).nv, curIdx := (writeMask mask s).curIdx, curSeq := (writeMask mask s).curSeq,
      curPay := mask } := by
  by_cases h : mask = s.curPay
  · subst h; simp [writeMask, writeNeeded]
  · have hw : writeMask mask s = appendSlot mask s := by simp [writeMask, writeNeeded, h]
    rw [hw]; exact appendSlot_frame mask s

/-- PAYHI as a number: the upper four bits of the mask (20_memory.md R62). -/
theorem payhi_toNat (mask : NoteMask) : (0#4 ++ mask.extractLsb' 8 4).toNat = mask.toNat / 256 := by
  have := mask.isLt
  simp only [BitVec.toNat_append, BitVec.extractLsb'_toNat, Nat.shiftRight_eq_div_pow, BitVec.toNat_ofNat]
  simp
  omega

/-- The sequence bytes after a whole slot write. -/
theorem slotSeq_appendSlot (mask : NoteMask) (s : State) (k : Nat) :
    slotSeq (appendSlot mask s) k = if k = (nextSlot s).toNat then s.curSeq + 1#8 else slotSeq s k := by
  simp only [slotSeq, slotAddr_eq, nvByte_appendSlot, nvByte_slotWrites]
  grind

/-- The written slot holds the mask. -/
theorem slotPayload_appendSlot (mask : NoteMask) (s : State) :
    slotPayload (appendSlot mask s) (nextSlot s).toNat = mask := by
  apply BitVec.eq_of_toNat_eq
  have := mask.isLt
  simp [slotPayload_toNat, nvByte_appendSlot, nvByte_slotWrites, payhi_toNat, Nat.shiftRight_eq_div_pow]
  omega

/-! ### A torn write -/

/-- Every byte of the medium after a torn write is that of its byte writes. -/
theorem nvByte_tornWrite (mask : NoteMask) (j : Fin 4) (g : Option Byte) (s : State) (a : Nat) :
    nvByte (tornWrite mask j g s) a = nvByte (nvStoreAll s (tornWrites (slotWrites s mask) j.val g)) a := by
  refine nvByte_congr (s := nvStoreAll s _) ?_ rfl a
  rw [nvStoreAll_eq]

/-- The sequence bytes after a torn write: that of the torn slot is the intended one after all three writes,
the given byte after two, and the old one before. -/
theorem slotSeq_tornWrite (mask : NoteMask) (j : Fin 4) (g : Option Byte) (s : State) (k : Nat) :
    slotSeq (tornWrite mask j g s) k =
      if k = (nextSlot s).toNat then
        (if j.val = 3 then s.curSeq + 1#8 else if j.val = 2 then g.getD (slotSeq s k) else slotSeq s k)
      else slotSeq s k := by
  simp only [slotSeq, nvByte_tornWrite, nvByte_tornWrites _ _ _ (show j.val ≤ 3 by omega), slotAddr_eq]
  generalize (nextSlot s).toNat = n
  obtain hj | hj | hj | hj : j.val = 0 ∨ j.val = 1 ∨ j.val = 2 ∨ j.val = 3 := by omega
  all_goals simp only [hj]; cases g <;> simp <;> grind

/-- A torn write, field by field: a power-on on the medium it leaves. -/
theorem tornWrite_frame (mask : NoteMask) (j : Fin 4) (g : Option Byte) (s : State) :
    tornWrite mask j g s = { State.powerOn s.params (tornWrite mask j g s).nv with inbox := s.inbox } := by
  conv_lhs => rw [tornWrite, nvStoreAll_eq]
  rfl

/-- A torn write leaves every byte outside the torn slot. -/
theorem nvByte_tornWrite_outside (mask : NoteMask) (j : Fin 4) (g : Option Byte) {s : State} {a : Nat}
    (h : a / 3 ≠ (nextSlot s).toNat) : nvByte (tornWrite mask j g s) a = nvByte s a := by
  rw [nvByte_tornWrite, nvByte_tornWrites _ _ _ (show j.val ≤ 3 by omega)]
  split_ifs <;> first | rfl | omega

/-- A torn write leaves the payload of every other slot. -/
theorem slotPayload_tornWrite_other (mask : NoteMask) (j : Fin 4) (g : Option Byte) {s : State} {k : Nat}
    (h : k ≠ (nextSlot s).toNat) : slotPayload (tornWrite mask j g s) k = slotPayload s k := by
  have hb : ∀ f < 3, nvByte (tornWrite mask j g s) (3 * k + f) = nvByte s (3 * k + f) := fun f hf =>
    nvByte_tornWrite_outside mask j g (by omega)
  simp only [slotPayload, slotAddr_eq, hb _ (show 0 < 3 by decide), hb _ (show 1 < 3 by decide)]

/-- From two byte writes on, the torn slot holds the new payload. -/
theorem slotPayload_tornWrite_written (mask : NoteMask) (j : Fin 4) (g : Option Byte) (s : State)
    (h : 2 ≤ j.val) : slotPayload (tornWrite mask j g s) (nextSlot s).toNat = mask := by
  apply BitVec.eq_of_toNat_eq
  have := mask.isLt
  simp only [slotPayload_toNat, nvByte_tornWrite, nvByte_tornWrites _ _ _ (show j.val ≤ 3 by omega)]
  generalize (nextSlot s).toNat = n
  have h0 : ¬ (3 * n = 3 * n + j.val ∧ j.val ≤ 2 ∧ g.isSome = true) := by omega
  have h1 : ¬ (3 * n + 1 = 3 * n + j.val ∧ j.val ≤ 2 ∧ g.isSome = true) := by omega
  have h2 : ¬ (3 * n + 1 = 3 * n ∧ 0 < j.val) := by omega
  rw [if_neg h0, if_neg h1, if_neg h2, if_pos ⟨trivial, by omega⟩, if_pos ⟨trivial, by omega⟩, payhi_toNat]
  simp only [BitVec.extractLsb'_toNat, Nat.shiftRight_zero]
  omega

/-- A torn write stays inside the medium, as the whole write does. -/
theorem tornWrites_inside (mask : NoteMask) (j : Nat) (g : Option Byte) (s : State) :
    ∀ w ∈ tornWrites (slotWrites s mask) j g, w.1 < 384 := by
  intro w hw
  have hi := slotWrites_inside s mask
  rcases List.mem_append.1 hw with hw | hw
  · exact hi w (List.mem_of_mem_take hw)
  · split at hw
    · rename_i hj _
      obtain rfl := List.mem_singleton.1 hw
      have := hi _ (List.mem_of_getElem? hj)
      exact this
    · cases hw

/-- A whole slot write keeps the canonical form of the medium. -/
theorem appendSlot_wf {s : State} (h : Memory.wf s.params.nvErased s.nv) (mask : NoteMask) :
    Memory.wf s.params.nvErased (appendSlot mask s).nv := nvStoreAll_wf h (slotWrites_inside s mask)

/-- A torn write keeps the canonical form of the medium. -/
theorem tornWrite_wf {s : State} (h : Memory.wf s.params.nvErased s.nv) (mask : NoteMask) (j : Fin 4)
    (g : Option Byte) : Memory.wf s.params.nvErased (tornWrite mask j g s).nv :=
  nvStoreAll_wf h (tornWrites_inside mask j.val g s)

/-- The medium of the first power-on is in canonical form. -/
theorem resetWith_wf (p : Config.Params) : Memory.wf p.nvErased (State.resetWith p).nv :=
  ⟨List.Pairwise.nil, fun _ h => absurd h List.not_mem_nil⟩

/-- What a loss of power in place of a word can do: tear the slot write of the word's mask, or clear the
volatile state alone. -/
theorem powerFailInPlaceOf_cases (cmd : Word) (j : Fin 4) (g : Option Byte) (s : State) :
    (∃ i mask, decode cmd = .ok i ∧ pendingWrite i s = some mask ∧
      powerFailInPlaceOf cmd j g s = tornWrite mask j g s) ∨
    ((∀ i, decode cmd = .ok i → pendingWrite i s = none) ∧
      powerFailInPlaceOf cmd j g s = clearVolatile s) := by
  unfold powerFailInPlaceOf
  cases hd : decode cmd with
  | error e => exact .inr ⟨by simp, rfl⟩
  | ok i =>
    cases hp : pendingWrite i s with
    | none => exact .inr ⟨by simpa using hp, by simp [hp]⟩
    | some mask => exact .inl ⟨i, mask, rfl, hp, by simp [hp]⟩

/-- Which events would write a slot, and what: an NVWRITE, or a FLUSH after an elapsed countdown, of a mask
that is not the current payload, with a recovered log. -/
theorem pendingWrite_eq_some {i : Instr} {s : State} {mask : NoteMask} (h : pendingWrite i s = some mask) :
    s.nvValid = true ∧ mask ≠ s.curPay ∧ (i = .nvwrite mask ∨ (i = .flush ∧ s.saveEl = true ∧ s.mask = mask)) := by
  unfold pendingWrite at h
  split at h
  · simp only [Option.ite_none_right_eq_some, Bool.and_eq_true, writeNeeded, bne_iff_ne, Option.some.injEq] at h
    obtain ⟨⟨h1, h2⟩, rfl⟩ := h
    exact ⟨h1, h2, .inl rfl⟩
  · simp only [Option.ite_none_right_eq_some, Bool.and_eq_true, writeNeeded, bne_iff_ne, Option.some.injEq] at h
    obtain ⟨⟨⟨h1, h2⟩, h3⟩, rfl⟩ := h
    exact ⟨h1, h3, .inr ⟨rfl, h2, rfl⟩⟩
  · cases h

/-! ### How a write moves the run -/

/-- A sequence byte `v` put in the slot after the end of a run: the intended number makes that slot the end of
a run; another number leaves the run as it was, but for the slot 0, where a run of length one begins. -/
theorem run_after_sequence {s t : State} {k : Nat} {b : BitVec 8} (v : BitVec 8) (h : RunEndsAt s k b)
    (ht : ∀ j, slotSeq t j = if j = (k + 1) % 128 then v else slotSeq s j) :
    (v = b + BitVec.ofNat 8 k + 1#8 → ∃ c, RunEndsAt t ((k + 1) % 128) c ∧ v = c + BitVec.ofNat 8 ((k + 1) % 128)) ∧
    (v ≠ b + BitVec.ofNat 8 k + 1#8 → k ≠ 127 → RunEndsAt t k b) ∧
    (k = 127 → v ≠ b → RunEndsAt t 0 v) ∧
    (k = 127 → v = b → RunEndsAt t k b) := by
  obtain ⟨hk, hrun, hend⟩ := h
  simp only [Config.ringN] at hk hend
  by_cases h127 : k = 127
  · subst h127
    have h0 : v ≠ b → RunEndsAt t 0 v := by
      intro hv
      refine ⟨by decide, fun j hj => ?_, fun j hj hj' => ?_⟩
      · have : j = 0 := by omega
        subst this; simp [ht]
      · simp only [Config.ringN] at hj'
        rw [ht, if_neg (by omega), hrun j (by omega)]
        bv_omega
    refine ⟨fun hv => ⟨v, h0 ?_, ?_⟩, fun _ h => absurd rfl h, fun _ => h0, fun _ hv => ?_⟩
    · bv_omega
    · simp
    · refine ⟨by decide, fun j hj => ?_, fun j hj hj' => ?_⟩
      · rw [ht]; split
        · rename_i h; subst h; simp [hv]
        · exact hrun j hj
      · simp only [Config.ringN] at hj'; omega
  · have hmod : (k + 1) % 128 = k + 1 := by omega
    rw [hmod] at ht ⊢
    refine ⟨fun hv => ⟨b, ⟨by simp only [Config.ringN]; omega, fun j hj => ?_, fun j hj hj' => ?_⟩, ?_⟩,
      fun hv _ => ⟨hk, fun j hj => ?_, fun j hj hj' => ?_⟩, fun h => absurd h h127, fun h => absurd h h127⟩
    · rw [ht]; split
      · rename_i h; subst h; rw [hv]; bv_omega
      · exact hrun j (by omega)
    · simp only [Config.ringN] at hj'
      rw [ht, if_neg (by omega)]; exact hend j (by omega) hj'
    · rw [hv]; bv_omega
    · rw [ht, if_neg (by omega)]; exact hrun j hj
    · simp only [Config.ringN] at hj'
      rw [ht]; split
      · rename_i h; subst h; intro hc; apply hv; rw [hc]; bv_omega
      · exact hend j hj hj'

/-- A run, and a log without a valid cache, depend on the sequence bytes alone. -/
theorem runEndsAt_congr {s t : State} {k : Nat} {b : BitVec 8} (h : RunEndsAt s k b)
    (ht : ∀ j, slotSeq t j = slotSeq s j) : RunEndsAt t k b :=
  ⟨h.1, fun j hj => (ht j).trans (h.2.1 j hj), fun j hj hj' => by rw [ht]; exact h.2.2 j hj hj'⟩

end Sys2Proof.Machine
end

