-- ==== Sys2Proof/Laws/Ops.lean ====
section
/-! SUPPORT. What the small shared operations can do, each said once: the timers (spec/44_sample_pipeline.md
R181), the delivery of a stimulus, the packed fields, and the test parameter set T0 (spec/00_scope.md R8). -/

namespace Sys2Proof.Machine

open Sys2Proof.Safety

/-! ### Timers -/

/-- What one call of `Tick()` can do: run on, expire, or be idle (44_sample_pipeline.md R181). -/
theorem tickTimer_cases (cnt : BitVec 32) (st : TimerState) :
    (st = .running ∧ cnt ≠ 1#32 ∧ tickTimer cnt st = ⟨cnt - 1#32, .running, false⟩) ∨
    (st = .running ∧ cnt = 1#32 ∧ tickTimer cnt st = ⟨0#32, .expired, true⟩) ∨
    (st ≠ .running ∧ tickTimer cnt st = ⟨cnt, .idle, false⟩) := by
  cases st with
  | idle => exact .inr (.inr ⟨by decide, rfl⟩)
  | expired => exact .inr (.inr ⟨by decide, rfl⟩)
  | running =>
    by_cases h : cnt = 1#32
    · subst h; exact .inr (.inl ⟨rfl, rfl, rfl⟩)
    · refine .inl ⟨rfl, h, if_neg ?_⟩
      intro h0; apply h; bv_omega

/-- A timer has expired exactly in the call that reports it. -/
theorem tickTimer_expired_iff (cnt : BitVec 32) (st : TimerState) :
    (tickTimer cnt st).expired = true ↔ (tickTimer cnt st).st = .expired := by
  rcases tickTimer_cases cnt st with ⟨-, -, h⟩ | ⟨-, -, h⟩ | ⟨-, h⟩ <;> simp [h]

/-- A timer that counts only while it runs still does after a call (10_state.md R44 d). -/
theorem timerOk_tickTimer {cnt : BitVec 32} {st : TimerState} (h : TimerOk cnt st) :
    TimerOk (tickTimer cnt st).cnt (tickTimer cnt st).st := by
  unfold TimerOk at *
  rcases tickTimer_cases cnt st with ⟨h1, h2, h3⟩ | ⟨h1, h2, h3⟩ | ⟨h1, h3⟩
  · have := h.1 h1
    simp only [h3, true_iff]
    have : (cnt - 1#32).toNat ≠ 0 := by
      intro hc; apply h2; bv_omega
    omega
  · simp [h3]
  · simp only [h3]
    simpa [h1] using h

/-! ### Delivery -/

@[simp] theorem takeStimulus_nil {s : State} (h : s.inbox = []) : takeStimulus s = none := by
  simp [takeStimulus, h]

@[simp] theorem takeStimulus_cons {s : State} {x : Stimulus} {rest : List Stimulus} (h : s.inbox = x :: rest) :
    takeStimulus s = some (x, { s with inbox := rest }) := by
  simp [takeStimulus, h]

/-- The delivered word is the next one taken, and taking it gives the state back. -/
theorem takeStimulus_deliver (cmd : Word) (s : State) :
    takeStimulus (deliver cmd s) = some (.event cmd, s) := rfl

/-- What a step can do, by the stimulus it takes. -/
theorem step_cases (s : State) :
    (s.inbox = [] ∧ step s = .next s) ∨
    ∃ x rest, s.inbox = x :: rest ∧
      ((∃ cmd i, x = .event cmd ∧ decode cmd = .ok i ∧ step s = exec i { s with inbox := rest }) ∨
       (∃ cmd e, x = .event cmd ∧ decode cmd = .error e ∧ step s = .refused (decodeRefusal e)) ∨
       ((x = .resetInput ∨ x = .powerFail) ∧ step s = .next (clearVolatile { s with inbox := rest })) ∨
       (∃ cmd j g, x = .powerFailDuring cmd j g ∧
        step s = .next (powerFailInPlaceOf cmd j g { s with inbox := rest }))) := by
  cases h : s.inbox with
  | nil => exact .inl ⟨rfl, by simp [step, takeStimulus_nil h]⟩
  | cons x rest =>
    refine .inr ⟨x, rest, rfl, ?_⟩
    unfold step
    rw [takeStimulus_cons h]
    cases x with
    | event cmd =>
      cases hd : decode cmd with
      | ok i => exact .inl ⟨cmd, i, rfl, hd, by simp [hd]⟩
      | error e => exact .inr (.inl ⟨cmd, e, rfl, hd, by simp [hd]⟩)
    | resetInput => exact .inr (.inr (.inl ⟨.inl rfl, rfl⟩))
    | powerFail => exact .inr (.inr (.inl ⟨.inr rfl, rfl⟩))
    | powerFailDuring cmd j g => exact .inr (.inr (.inr ⟨cmd, j, g, rfl, rfl⟩))

/-! ### Packed fields -/

theorem fieldAt_zero {n : Nat} (hn : n ≤ 32) (v : BitVec n) : fieldAt 0 v = BitVec.ofNat 32 v.toNat := by
  apply BitVec.eq_of_toNat_eq
  have := lt_of_lt_of_le v.isLt (Nat.pow_le_pow_right (by decide) hn)
  simp [fieldAt]

/-- The answer of QUANT: a pitch as 16-bit two's complement, in a 32-bit word (41_quantizer.md R108). -/
theorem tc16_setWidth (pitch : Int) : (tc16 pitch).setWidth 32 = BitVec.ofNat 32 (pitch % 65536).toNat := by
  apply BitVec.eq_of_toNat_eq
  simp [tc16]

/-- The numbers RDREG can read: all but 0x0F and those above 0x1B (10_state.md R42). -/
theorem readRegister_isSome (s : State) (reg : BitVec 8) :
    (readRegister s reg).isSome = decide ¬ (reg.toNat = 0x0F ∨ 0x1C ≤ reg.toNat) := by
  unfold readRegister
  split
  all_goals try (rename_i h; simp [h]; done)
  split
  · by_cases h : reg.toNat < 28
    · have : reg.toNat - 16 < 12 := by omega
      simp [this]; omega
    · have : ¬ reg.toNat - 16 < 12 := by omega
      simp [this]; omega
  · have := reg.isLt
    simp only [imp_false] at *
    simp
    omega

/-! ### T0 -/

theorem adcMax_t0 : adcMax Config.t0 = 1023 := rfl

/-- The entries of T0's Pitch Table 1 (00_scope.md R8). -/
theorem pt1_t0 {code : Nat} (h : code ≤ 1023) : pt1 Config.t0 code = 15 * code := by
  have e : pt1 Config.t0 code = (BitVec.ofNat 16 (15 * code)).toInt := if_pos h
  have hm : 15 * code % 65536 = 15 * code := Nat.mod_eq_of_lt (by omega)
  rw [e, BitVec.toInt_eq_toNat_of_lt] <;> simp [hm]
  omega

/-- T0 is in the legal ranges (00_scope.md R8, R9). -/
theorem legal_t0 : Legal Config.t0 where
  adcBits := by decide
  tableTotal := fun _ _ => rfl
  tableFits := by rintro _ ⟨⟩; decide
  tableRises := fun a b hab hb => by
    rw [adcMax_t0] at hb
    rw [pt1_t0 (by omega), pt1_t0 hb]
    omega
  window := by decide
  filter := by decide
  deadband := by decide
  gateTicks := by decide
  autosaveTicks := by decide
  pinsDiffer := by decide
  pairsDiffer := by decide

end Sys2Proof.Machine
end

