-- ==== Sys2Proof/Laws/Panel.lean ====
section
/-! SUPPORT. What the Panel Scanner's parts can do (spec/42_panel_scanner.md), each said once: the debounce of
one button in numbers, one bit of a register, the two advances, and the driven pins. -/

namespace Sys2Proof.Machine

theorem fullWindow_toNat {w : Nat} (h : w ≤ 8) : (fullWindow w).toNat = 2 ^ w - 1 := by
  interval_cases w <;> rfl

/-- The debounce shift in numbers: twice the history and the level, in the window (42_panel_scanner.md R123). -/
theorem shiftHistory_toNat {w : Nat} (hw : w ≤ 8) (h : BitVec 8) (lvl : Bool) :
    (shiftHistory w h lvl).toNat = (2 * h.toNat + lvl.toNat) % 2 ^ w := by
  have hb : (BitVec.ofBool lvl).toNat = lvl.toNat := by cases lvl <;> rfl
  have hs : (h <<< 1 ||| (BitVec.ofBool lvl).setWidth 8) = h <<< 1 + (BitVec.ofBool lvl).setWidth 8 := by
    refine (BitVec.add_eq_or_of_and_eq_zero _ _ ?_).symm
    apply BitVec.eq_of_getLsbD_eq
    intro i hi
    simp; omega
  have hl : lvl.toNat ≤ 1 := by cases lvl <;> decide
  have := h.isLt
  rw [shiftHistory, BitVec.toNat_and, fullWindow_toNat hw, Nat.and_two_pow_sub_one_eq_mod, hs]
  simp only [BitVec.toNat_add, BitVec.toNat_shiftLeft, BitVec.toNat_setWidth, hb, Nat.shiftLeft_eq]
  interval_cases w <;> omega

/-- The three ends of a debounce: a ButtonEdge on a full window while not pressed; a release on an empty
window; no change between (42_panel_scanner.md R123 to R125). -/
theorem debounce_cases (w : Nat) (hist : BitVec 8) (pressed lvl : Bool) :
    (shiftHistory w hist lvl = fullWindow w ∧ pressed = false ∧
      debounce w hist pressed lvl = ⟨shiftHistory w hist lvl, true, true⟩) ∨
    (¬ (shiftHistory w hist lvl = fullWindow w ∧ pressed = false) ∧ shiftHistory w hist lvl = 0#8 ∧
      debounce w hist pressed lvl = ⟨shiftHistory w hist lvl, false, false⟩) ∨
    (¬ (shiftHistory w hist lvl = fullWindow w ∧ pressed = false) ∧ shiftHistory w hist lvl ≠ 0#8 ∧
      debounce w hist pressed lvl = ⟨shiftHistory w hist lvl, pressed, false⟩) := by
  by_cases h1 : shiftHistory w hist lvl = fullWindow w ∧ pressed = false
  · exact .inl ⟨h1.1, h1.2, if_pos h1⟩
  · by_cases h2 : shiftHistory w hist lvl = 0#8
    · exact .inr (.inl ⟨h1, h2, (if_neg h1).trans (if_pos h2)⟩)
    · exact .inr (.inr ⟨h1, h2, (if_neg h1).trans (if_neg h2)⟩)

@[simp] theorem debounce_hist (w : Nat) (hist : BitVec 8) (pressed lvl : Bool) :
    (debounce w hist pressed lvl).hist = shiftHistory w hist lvl := by
  rcases debounce_cases w hist pressed lvl with ⟨-, -, h⟩ | ⟨-, -, h⟩ | ⟨-, -, h⟩ <;> rw [h]

theorem noteBit_getLsbD (b c : Fin 12) : (noteBit b).getLsbD c.val = decide (c = b) := by
  revert b c; decide

@[simp] theorem noteBit_getElem (b c : Fin 12) : (noteBit b)[c.val] = decide (c = b) := noteBit_getLsbD b c

/-- One bit of a register made `x`: that bit and no other. -/
@[simp] theorem putBit_getElem (v : BitVec 12) (b c : Fin 12) (x : Bool) :
    (putBit v b x)[c.val] = if c = b then x else v[c.val] := by
  unfold putBit
  by_cases h : c = b <;> cases x <;> simp [h]

theorem putBit_getLsbD (v : BitVec 12) (b c : Fin 12) (x : Bool) :
    (putBit v b x).getLsbD c.val = if c = b then x else v.getLsbD c.val := putBit_getElem v b c x

/-- The next scan position in numbers (42_panel_scanner.md R122). -/
theorem advanceScan_val (row : Fin 3) (col : Fin 4) :
    (advanceScan row col).2.val = (col.val + 1) % 4 ∧
    (advanceScan row col).1.val = (if col.val = 3 then (row.val + 1) % 3 else row.val) := by
  revert row col; decide

/-- The next scan position as a button index. -/
theorem buttonIndex_advanceScan (row : Fin 3) (col : Fin 4) :
    (buttonIndex (advanceScan row col).1 (advanceScan row col).2).val = ((buttonIndex row col).val + 1) % 12 := by
  revert row col; decide

theorem advanceLed_val (k : Fin 12) : (advanceLed k).val = (k.val + 1) % 12 := by revert k; decide

/-- The pins of a colour: the LED's two pins opposite ways, every other pin at high impedance
(42_panel_scanner.md R128). -/
theorem drivePins_get (a b p : Fin 6) (colour : BitVec 2) (h : a ≠ b) :
    (drivePins (a, b) colour)[p] =
      if colour = 1#2 then (if p = a then .h else if p = b then .l else .z)
      else if colour = 2#2 then (if p = a then .l else if p = b then .h else .z)
      else .z := by
  revert a b p colour; decide

/-- The colour of an LED, by the sounding note and the mask (42_panel_scanner.md R129). -/
theorem ledColour_eq (s : State) (k : Fin 12) :
    ledColour s k = if s.sound.toNat = k.val then 1#2 else if s.mask.getLsbD k.val then 2#2 else 0#2 := by
  have : s.sound = BitVec.ofNat 4 k.val ↔ s.sound.toNat = k.val := by
    rw [← BitVec.toNat_inj, BitVec.toNat_ofNat]
    omega
  simp [ledColour, this]

end Sys2Proof.Machine
end

