-- ==== Sys2Proof/Laws/PerInstr.lean ====
section
/-! SUPPORT. One lemma per constructor of Instr: the encoder writes a word of the instruction's own row of
spec/opcode_table.json. -/

namespace Sys2Proof.Laws

/-- The word of `i` has the fixed bits of the row of its mnemonic (30_encoding.md R81, R82). -/
def EncodeMatchesRow.Statement (i : Instr) : Prop :=
  ∃ r ∈ opcodeTable, r.mnemonic = i.mnemonic ∧ encode i &&& r.mask = r.pattern

theorem EncodeMatchesRow.nop : EncodeMatchesRow.Statement .nop :=
  ⟨opcodeTable[0], by simp [opcodeTable], rfl, rfl⟩

theorem EncodeMatchesRow.quant (sample : Sample) (mask : NoteMask) :
    EncodeMatchesRow.Statement (.quant sample mask) := by
  refine ⟨opcodeTable[1], by simp [opcodeTable], rfl, ?_⟩
  apply BitVec.eq_of_getLsbD_eq
  intro i hi
  interval_cases i <;> simp [encode, opcodeTable]

theorem EncodeMatchesRow.btnstep (lvl : Bool) : EncodeMatchesRow.Statement (.btnstep lvl) :=
  ⟨opcodeTable[2], by simp [opcodeTable], rfl, by cases lvl <;> rfl⟩

theorem EncodeMatchesRow.ledstep : EncodeMatchesRow.Statement .ledstep :=
  ⟨opcodeTable[3], by simp [opcodeTable], rfl, rfl⟩

theorem EncodeMatchesRow.panstep (lvl : Bool) : EncodeMatchesRow.Statement (.panstep lvl) :=
  ⟨opcodeTable[4], by simp [opcodeTable], rfl, by cases lvl <;> rfl⟩

theorem EncodeMatchesRow.nvread : EncodeMatchesRow.Statement .nvread :=
  ⟨opcodeTable[5], by simp [opcodeTable], rfl, rfl⟩

theorem EncodeMatchesRow.nvwrite (mask : NoteMask) : EncodeMatchesRow.Statement (.nvwrite mask) := by
  refine ⟨opcodeTable[6], by simp [opcodeTable], rfl, ?_⟩
  apply BitVec.eq_of_getLsbD_eq
  intro i hi
  interval_cases i <;> simp [encode, opcodeTable]

theorem EncodeMatchesRow.tick (sample : Sample) (gc gt : Bool) :
    EncodeMatchesRow.Statement (.tick sample gc gt) := by
  refine ⟨opcodeTable[7], by simp [opcodeTable], rfl, ?_⟩
  apply BitVec.eq_of_getLsbD_eq
  intro i hi
  cases gc <;> cases gt <;> interval_cases i <;> simp [encode, opcodeTable]

theorem EncodeMatchesRow.flush : EncodeMatchesRow.Statement .flush :=
  ⟨opcodeTable[8], by simp [opcodeTable], rfl, rfl⟩

theorem EncodeMatchesRow.rdreg (reg : BitVec 8) : EncodeMatchesRow.Statement (.rdreg reg) := by
  refine ⟨opcodeTable[9], by simp [opcodeTable], rfl, ?_⟩
  apply BitVec.eq_of_getLsbD_eq
  intro i hi
  interval_cases i <;> simp [encode, opcodeTable]

theorem EncodeMatchesRow.boot : EncodeMatchesRow.Statement .boot :=
  ⟨opcodeTable[10], by simp [opcodeTable], rfl, rfl⟩

theorem EncodeMatchesRow.reset : EncodeMatchesRow.Statement .reset :=
  ⟨opcodeTable[11], by simp [opcodeTable], rfl, rfl⟩

end Sys2Proof.Laws
end

