-- ==== Sys2Proof/Laws/Pipeline.lean ====
section
/-! SUPPORT. The frames of the pipeline's steps (spec/44_sample_pipeline.md): what each step of a tick leaves
unchanged, and what a poll and an acceptance leave. -/

namespace Sys2Proof.Machine

/-- Step 3 writes the touch flag and the autosave timer only. -/
theorem tickPoll_frame (s : State) :
    tickPoll s = { s with touch := (tickPoll s).touch, saveCnt := (tickPoll s).saveCnt, saveSt := (tickPoll s).saveSt, saveEl := (tickPoll s).saveEl } := by
  unfold tickPoll; split <;> rfl

@[simp] theorem tickPoll_mask (s : State) : (tickPoll s).mask = s.mask := by rw [tickPoll_frame]
@[simp] theorem tickPoll_row (s : State) : (tickPoll s).row = s.row := by rw [tickPoll_frame]
@[simp] theorem tickPoll_col (s : State) : (tickPoll s).col = s.col := by rw [tickPoll_frame]
@[simp] theorem tickPoll_ledIdx (s : State) : (tickPoll s).ledIdx = s.ledIdx := by rw [tickPoll_frame]
@[simp] theorem tickPoll_hist (s : State) : (tickPoll s).hist = s.hist := by rw [tickPoll_frame]
@[simp] theorem tickPoll_pressed (s : State) : (tickPoll s).pressed = s.pressed := by rw [tickPoll_frame]
@[simp] theorem tickPoll_ledPin (s : State) : (tickPoll s).ledPin = s.ledPin := by rw [tickPoll_frame]
@[simp] theorem tickPoll_filtAcc (s : State) : (tickPoll s).filtAcc = s.filtAcc := by rw [tickPoll_frame]
@[simp] theorem tickPoll_prevAcc (s : State) : (tickPoll s).prevAcc = s.prevAcc := by rw [tickPoll_frame]
@[simp] theorem tickPoll_prevEmit (s : State) : (tickPoll s).prevEmit = s.prevEmit := by rw [tickPoll_frame]
@[simp] theorem tickPoll_emitValid (s : State) : (tickPoll s).emitValid = s.emitValid := by rw [tickPoll_frame]
@[simp] theorem tickPoll_sound (s : State) : (tickPoll s).sound = s.sound := by rw [tickPoll_frame]
@[simp] theorem tickPoll_dacCode (s : State) : (tickPoll s).dacCode = s.dacCode := by rw [tickPoll_frame]
@[simp] theorem tickPoll_gate (s : State) : (tickPoll s).gate = s.gate := by rw [tickPoll_frame]
@[simp] theorem tickPoll_gateCnt (s : State) : (tickPoll s).gateCnt = s.gateCnt := by rw [tickPoll_frame]
@[simp] theorem tickPoll_gateSt (s : State) : (tickPoll s).gateSt = s.gateSt := by rw [tickPoll_frame]
@[simp] theorem tickPoll_curIdx (s : State) : (tickPoll s).curIdx = s.curIdx := by rw [tickPoll_frame]
@[simp] theorem tickPoll_curSeq (s : State) : (tickPoll s).curSeq = s.curSeq := by rw [tickPoll_frame]
@[simp] theorem tickPoll_curPay (s : State) : (tickPoll s).curPay = s.curPay := by rw [tickPoll_frame]
@[simp] theorem tickPoll_nvValid (s : State) : (tickPoll s).nvValid = s.nvValid := by rw [tickPoll_frame]
@[simp] theorem tickPoll_nv (s : State) : (tickPoll s).nv = s.nv := by rw [tickPoll_frame]
@[simp] theorem tickPoll_params (s : State) : (tickPoll s).params = s.params := by rw [tickPoll_frame]
@[simp] theorem tickPoll_inbox (s : State) : (tickPoll s).inbox = s.inbox := by rw [tickPoll_frame]
@[simp] theorem tickPoll_rsp (s : State) : (tickPoll s).rsp = s.rsp := by rw [tickPoll_frame]

@[simp] theorem tickPoll_touch (s : State) : (tickPoll s).touch = false := by
  unfold tickPoll; split <;> simp_all

@[simp] theorem tickPoll_saveCnt (s : State) :
    (tickPoll s).saveCnt = if s.touch then s.params.autosaveTicks else s.saveCnt := by
  unfold tickPoll; split <;> rfl

@[simp] theorem tickPoll_saveSt (s : State) :
    (tickPoll s).saveSt = if s.touch then .running else s.saveSt := by
  unfold tickPoll; split <;> rfl

@[simp] theorem tickPoll_saveEl (s : State) : (tickPoll s).saveEl = (s.saveEl && !s.touch) := by
  unfold tickPoll; split <;> simp_all

/-- Step 5's deadband writes PREVACC only. -/
theorem tickAccept_frame (f : Nat) (s : State) :
    tickAccept f s = { s with prevAcc := (tickAccept f s).prevAcc } := by
  unfold tickAccept; split <;> rfl

@[simp] theorem tickAccept_mask (f : Nat) (s : State) : (tickAccept f s).mask = s.mask := by rw [tickAccept_frame]
@[simp] theorem tickAccept_row (f : Nat) (s : State) : (tickAccept f s).row = s.row := by rw [tickAccept_frame]
@[simp] theorem tickAccept_col (f : Nat) (s : State) : (tickAccept f s).col = s.col := by rw [tickAccept_frame]
@[simp] theorem tickAccept_ledIdx (f : Nat) (s : State) : (tickAccept f s).ledIdx = s.ledIdx := by rw [tickAccept_frame]
@[simp] theorem tickAccept_hist (f : Nat) (s : State) : (tickAccept f s).hist = s.hist := by rw [tickAccept_frame]
@[simp] theorem tickAccept_pressed (f : Nat) (s : State) : (tickAccept f s).pressed = s.pressed := by rw [tickAccept_frame]
@[simp] theorem tickAccept_touch (f : Nat) (s : State) : (tickAccept f s).touch = s.touch := by rw [tickAccept_frame]
@[simp] theorem tickAccept_ledPin (f : Nat) (s : State) : (tickAccept f s).ledPin = s.ledPin := by rw [tickAccept_frame]
@[simp] theorem tickAccept_filtAcc (f : Nat) (s : State) : (tickAccept f s).filtAcc = s.filtAcc := by rw [tickAccept_frame]
@[simp] theorem tickAccept_prevEmit (f : Nat) (s : State) : (tickAccept f s).prevEmit = s.prevEmit := by rw [tickAccept_frame]
@[simp] theorem tickAccept_emitValid (f : Nat) (s : State) : (tickAccept f s).emitValid = s.emitValid := by rw [tickAccept_frame]
@[simp] theorem tickAccept_sound (f : Nat) (s : State) : (tickAccept f s).sound = s.sound := by rw [tickAccept_frame]
@[simp] theorem tickAccept_dacCode (f : Nat) (s : State) : (tickAccept f s).dacCode = s.dacCode := by rw [tickAccept_frame]
@[simp] theorem tickAccept_gate (f : Nat) (s : State) : (tickAccept f s).gate = s.gate := by rw [tickAccept_frame]
@[simp] theorem tickAccept_gateCnt (f : Nat) (s : State) : (tickAccept f s).gateCnt = s.gateCnt := by rw [tickAccept_frame]
@[simp] theorem tickAccept_gateSt (f : Nat) (s : State) : (tickAccept f s).gateSt = s.gateSt := by rw [tickAccept_frame]
@[simp] theorem tickAccept_saveCnt (f : Nat) (s : State) : (tickAccept f s).saveCnt = s.saveCnt := by rw [tickAccept_frame]
@[simp] theorem tickAccept_saveSt (f : Nat) (s : State) : (tickAccept f s).saveSt = s.saveSt := by rw [tickAccept_frame]
@[simp] theorem tickAccept_saveEl (f : Nat) (s : State) : (tickAccept f s).saveEl = s.saveEl := by rw [tickAccept_frame]
@[simp] theorem tickAccept_curIdx (f : Nat) (s : State) : (tickAccept f s).curIdx = s.curIdx := by rw [tickAccept_frame]
@[simp] theorem tickAccept_curSeq (f : Nat) (s : State) : (tickAccept f s).curSeq = s.curSeq := by rw [tickAccept_frame]
@[simp] theorem tickAccept_curPay (f : Nat) (s : State) : (tickAccept f s).curPay = s.curPay := by rw [tickAccept_frame]
@[simp] theorem tickAccept_nvValid (f : Nat) (s : State) : (tickAccept f s).nvValid = s.nvValid := by rw [tickAccept_frame]
@[simp] theorem tickAccept_nv (f : Nat) (s : State) : (tickAccept f s).nv = s.nv := by rw [tickAccept_frame]
@[simp] theorem tickAccept_params (f : Nat) (s : State) : (tickAccept f s).params = s.params := by rw [tickAccept_frame]
@[simp] theorem tickAccept_inbox (f : Nat) (s : State) : (tickAccept f s).inbox = s.inbox := by rw [tickAccept_frame]
@[simp] theorem tickAccept_rsp (f : Nat) (s : State) : (tickAccept f s).rsp = s.rsp := by rw [tickAccept_frame]

@[simp] theorem tickAccept_prevAcc (f : Nat) (s : State) :
    (tickAccept f s).prevAcc = if inDeadband f s then s.prevAcc else BitVec.ofNat 16 f := by
  unfold tickAccept; split <;> rfl

/-- Steps 5 and 6 write the deadband memory, the emitted pitch, the output and its timer only. -/
theorem tickQuantize_frame (f : Nat) (s : State) :
    (tickQuantize f s).1 = { s with prevAcc := ((tickQuantize f s).1).prevAcc, prevEmit := ((tickQuantize f s).1).prevEmit, emitValid := ((tickQuantize f s).1).emitValid, sound := ((tickQuantize f s).1).sound, dacCode := ((tickQuantize f s).1).dacCode, gate := ((tickQuantize f s).1).gate, gateCnt := ((tickQuantize f s).1).gateCnt, gateSt := ((tickQuantize f s).1).gateSt } := by
  unfold tickQuantize
  split
  · split
    · simp only [emitPitch]; rw [tickAccept_frame]
    · simp only; rw [tickAccept_frame]
  · simp only; rw [tickAccept_frame]

@[simp] theorem tickQuantize_mask (f : Nat) (s : State) : ((tickQuantize f s).1).mask = s.mask := by rw [tickQuantize_frame]
@[simp] theorem tickQuantize_row (f : Nat) (s : State) : ((tickQuantize f s).1).row = s.row := by rw [tickQuantize_frame]
@[simp] theorem tickQuantize_col (f : Nat) (s : State) : ((tickQuantize f s).1).col = s.col := by rw [tickQuantize_frame]
@[simp] theorem tickQuantize_ledIdx (f : Nat) (s : State) : ((tickQuantize f s).1).ledIdx = s.ledIdx := by rw [tickQuantize_frame]
@[simp] theorem tickQuantize_hist (f : Nat) (s : State) : ((tickQuantize f s).1).hist = s.hist := by rw [tickQuantize_frame]
@[simp] theorem tickQuantize_pressed (f : Nat) (s : State) : ((tickQuantize f s).1).pressed = s.pressed := by rw [tickQuantize_frame]
@[simp] theorem tickQuantize_touch (f : Nat) (s : State) : ((tickQuantize f s).1).touch = s.touch := by rw [tickQuantize_frame]
@[simp] theorem tickQuantize_ledPin (f : Nat) (s : State) : ((tickQuantize f s).1).ledPin = s.ledPin := by rw [tickQuantize_frame]
@[simp] theorem tickQuantize_filtAcc (f : Nat) (s : State) : ((tickQuantize f s).1).filtAcc = s.filtAcc := by rw [tickQuantize_frame]
@[simp] theorem tickQuantize_saveCnt (f : Nat) (s : State) : ((tickQuantize f s).1).saveCnt = s.saveCnt := by rw [tickQuantize_frame]
@[simp] theorem tickQuantize_saveSt (f : Nat) (s : State) : ((tickQuantize f s).1).saveSt = s.saveSt := by rw [tickQuantize_frame]
@[simp] theorem tickQuantize_saveEl (f : Nat) (s : State) : ((tickQuantize f s).1).saveEl = s.saveEl := by rw [tickQuantize_frame]
@[simp] theorem tickQuantize_curIdx (f : Nat) (s : State) : ((tickQuantize f s).1).curIdx = s.curIdx := by rw [tickQuantize_frame]
@[simp] theorem tickQuantize_curSeq (f : Nat) (s : State) : ((tickQuantize f s).1).curSeq = s.curSeq := by rw [tickQuantize_frame]
@[simp] theorem tickQuantize_curPay (f : Nat) (s : State) : ((tickQuantize f s).1).curPay = s.curPay := by rw [tickQuantize_frame]
@[simp] theorem tickQuantize_nvValid (f : Nat) (s : State) : ((tickQuantize f s).1).nvValid = s.nvValid := by rw [tickQuantize_frame]
@[simp] theorem tickQuantize_nv (f : Nat) (s : State) : ((tickQuantize f s).1).nv = s.nv := by rw [tickQuantize_frame]
@[simp] theorem tickQuantize_params (f : Nat) (s : State) : ((tickQuantize f s).1).params = s.params := by rw [tickQuantize_frame]
@[simp] theorem tickQuantize_inbox (f : Nat) (s : State) : ((tickQuantize f s).1).inbox = s.inbox := by rw [tickQuantize_frame]
@[simp] theorem tickQuantize_rsp (f : Nat) (s : State) : ((tickQuantize f s).1).rsp = s.rsp := by rw [tickQuantize_frame]
/-- Steps 4 to 6 write the deadband memory, the emitted pitch, the output and its timer only. -/
theorem tickPitch_frame (f : Nat) (gc gt : Bool) (s : State) :
    (tickPitch f gc gt s).1 = { s with prevAcc := ((tickPitch f gc gt s).1).prevAcc, prevEmit := ((tickPitch f gc gt s).1).prevEmit, emitValid := ((tickPitch f gc gt s).1).emitValid, sound := ((tickPitch f gc gt s).1).sound, dacCode := ((tickPitch f gc gt s).1).dacCode, gate := ((tickPitch f gc gt s).1).gate, gateCnt := ((tickPitch f gc gt s).1).gateCnt, gateSt := ((tickPitch f gc gt s).1).gateSt } := by
  unfold tickPitch
  split
  · rfl
  · split
    · rw [tickQuantize_frame]
    · rfl

@[simp] theorem tickPitch_mask (f : Nat) (gc gt : Bool) (s : State) : ((tickPitch f gc gt s).1).mask = s.mask := by rw [tickPitch_frame]
@[simp] theorem tickPitch_row (f : Nat) (gc gt : Bool) (s : State) : ((tickPitch f gc gt s).1).row = s.row := by rw [tickPitch_frame]
@[simp] theorem tickPitch_col (f : Nat) (gc gt : Bool) (s : State) : ((tickPitch f gc gt s).1).col = s.col := by rw [tickPitch_frame]
@[simp] theorem tickPitch_ledIdx (f : Nat) (gc gt : Bool) (s : State) : ((tickPitch f gc gt s).1).ledIdx = s.ledIdx := by rw [tickPitch_frame]
@[simp] theorem tickPitch_hist (f : Nat) (gc gt : Bool) (s : State) : ((tickPitch f gc gt s).1).hist = s.hist := by rw [tickPitch_frame]
@[simp] theorem tickPitch_pressed (f : Nat) (gc gt : Bool) (s : State) : ((tickPitch f gc gt s).1).pressed = s.pressed := by rw [tickPitch_frame]
@[simp] theorem tickPitch_touch (f : Nat) (gc gt : Bool) (s : State) : ((tickPitch f gc gt s).1).touch = s.touch := by rw [tickPitch_frame]
@[simp] theorem tickPitch_ledPin (f : Nat) (gc gt : Bool) (s : State) : ((tickPitch f gc gt s).1).ledPin = s.ledPin := by rw [tickPitch_frame]
@[simp] theorem tickPitch_filtAcc (f : Nat) (gc gt : Bool) (s : State) : ((tickPitch f gc gt s).1).filtAcc = s.filtAcc := by rw [tickPitch_frame]
@[simp] theorem tickPitch_saveCnt (f : Nat) (gc gt : Bool) (s : State) : ((tickPitch f gc gt s).1).saveCnt = s.saveCnt := by rw [tickPitch_frame]
@[simp] theorem tickPitch_saveSt (f : Nat) (gc gt : Bool) (s : State) : ((tickPitch f gc gt s).1).saveSt = s.saveSt := by rw [tickPitch_frame]
@[simp] theorem tickPitch_saveEl (f : Nat) (gc gt : Bool) (s : State) : ((tickPitch f gc gt s).1).saveEl = s.saveEl := by rw [tickPitch_frame]
@[simp] theorem tickPitch_curIdx (f : Nat) (gc gt : Bool) (s : State) : ((tickPitch f gc gt s).1).curIdx = s.curIdx := by rw [tickPitch_frame]
@[simp] theorem tickPitch_curSeq (f : Nat) (gc gt : Bool) (s : State) : ((tickPitch f gc gt s).1).curSeq = s.curSeq := by rw [tickPitch_frame]
@[simp] theorem tickPitch_curPay (f : Nat) (gc gt : Bool) (s : State) : ((tickPitch f gc gt s).1).curPay = s.curPay := by rw [tickPitch_frame]
@[simp] theorem tickPitch_nvValid (f : Nat) (gc gt : Bool) (s : State) : ((tickPitch f gc gt s).1).nvValid = s.nvValid := by rw [tickPitch_frame]
@[simp] theorem tickPitch_nv (f : Nat) (gc gt : Bool) (s : State) : ((tickPitch f gc gt s).1).nv = s.nv := by rw [tickPitch_frame]
@[simp] theorem tickPitch_params (f : Nat) (gc gt : Bool) (s : State) : ((tickPitch f gc gt s).1).params = s.params := by rw [tickPitch_frame]
@[simp] theorem tickPitch_inbox (f : Nat) (gc gt : Bool) (s : State) : ((tickPitch f gc gt s).1).inbox = s.inbox := by rw [tickPitch_frame]
@[simp] theorem tickPitch_rsp (f : Nat) (gc gt : Bool) (s : State) : ((tickPitch f gc gt s).1).rsp = s.rsp := by rw [tickPitch_frame]

/-- What steps 4 to 6 can do (44_sample_pipeline.md R174 to R178): silence the output on an empty mask; hold
everything without a trigger; or accept a code, whose pitch is emitted if it is new. -/
theorem tickPitch_cases (f : Nat) (gc gt : Bool) (s : State) :
    (s.mask = 0#12 ∧ tickPitch f gc gt s = (tickSilence s, false)) ∨
    (s.mask ≠ 0#12 ∧ running gc gt = false ∧ tickPitch f gc gt s = (s, false)) ∨
    (s.mask ≠ 0#12 ∧ running gc gt = true ∧ tickPitch f gc gt s = tickQuantize f s) := by
  by_cases hm : s.mask = 0#12
  · exact .inl ⟨hm, by simp [tickPitch, hm]⟩
  · cases hr : running gc gt
    · exact .inr (.inl ⟨hm, rfl, by simp [tickPitch, hm, hr]⟩)
    · exact .inr (.inr ⟨hm, rfl, by simp [tickPitch, hm, hr]⟩)

/-- The two ends of steps 5 and 6 where the Quantizer has a value. -/
theorem tickQuantize_of_some {f : Nat} {s : State} {p : Int}
    (h : quantize s.params s.mask (acceptedCode f s) = some p) :
    tickQuantize f s =
      if pitchIsNew p s then (emitPitch p (tickAccept f s), true) else (tickAccept f s, false) := by
  simp [tickQuantize, h]

/-- A tick completes exactly on a sample in range, with the state of its eight steps. -/
theorem execTick_next_iff {sample : Sample} {gc gt : Bool} {s t : State} :
    execTick sample gc gt s = .next t ↔ sample.toNat ≤ adcMax s.params ∧
      t = answer (tickResponse (tickState sample gc gt s) (tickFront sample gc gt s).2
        (gateEnds (tickFront sample gc gt s).1) (saveElapses (tickGate (tickFront sample gc gt s).1)))
        (tickState sample gc gt s) := by
  unfold execTick sampleInRange
  by_cases h : sample.toNat ≤ adcMax s.params <;> simp [h, eq_comm]

/-- The state in which step 4 finds the block: the sample filtered, the touch polled. -/
abbrev polled (sample : Sample) (s : State) : State := tickPoll (tickFilter sample s)

theorem tickFront_eq (sample : Sample) (gc gt : Bool) (s : State) :
    tickFront sample gc gt s = tickPitch (filtered (polled sample s)) gc gt (polled sample s) := rfl

theorem filtered_polled (sample : Sample) (s : State) :
    filtered (polled sample s) = (filterNext s.params.filterK s.filtAcc sample).toNat / 2 ^ s.params.filterK := by
  simp [filtered]

/-- A whole tick writes the filter, the touch flag, the two timers, the deadband memory, the emitted pitch and
the output, and nothing else (10_state.md R43). -/
theorem tickState_frame (sample : Sample) (gc gt : Bool) (s : State) :
    tickState sample gc gt s = { s with
      filtAcc := filterNext s.params.filterK s.filtAcc sample
      touch := false
      saveCnt := (tickState sample gc gt s).saveCnt
      saveSt := (tickState sample gc gt s).saveSt
      saveEl := (tickState sample gc gt s).saveEl
      prevAcc := (tickState sample gc gt s).prevAcc
      prevEmit := (tickState sample gc gt s).prevEmit
      emitValid := (tickState sample gc gt s).emitValid
      sound := (tickState sample gc gt s).sound
      dacCode := (tickState sample gc gt s).dacCode
      gate := (tickState sample gc gt s).gate
      gateCnt := (tickState sample gc gt s).gateCnt
      gateSt := (tickState sample gc gt s).gateSt } := by
  ext1 <;> simp [tickState, tickFront_eq]

end Sys2Proof.Machine
end

