-- ==== Sys2Proof/Laws/Quantizer.lean ====
section
/-! SUPPORT. What the Quantizer's parts can do (spec/41_quantizer.md R103 to R106): the folded distance of a
note, and the selection over a list of notes, each said once. -/

namespace Sys2Proof.Machine

/-- The three cases of the fold, for the distance `d` of the note in the octave of the input
(41_quantizer.md R104). -/
theorem foldedDistance_cases (s o d : Int) (i : Nat) (hd : d = (12 * o + i) * 256 - s) :
    (1536 < d ∧ foldedDistance s o i = d - 3072) ∨ (d ≤ -1536 ∧ foldedDistance s o i = d + 3072) ∨
      (-1536 < d ∧ d ≤ 1536 ∧ foldedDistance s o i = d) := by
  subst hd
  by_cases h1 : (12 * o + (i : Int)) * Config.semitone - s > Config.halfOctave
  · exact .inl ⟨h1, if_pos h1⟩
  · by_cases h2 : (12 * o + (i : Int)) * Config.semitone - s ≤ -Config.halfOctave
    · exact .inr (.inl ⟨h2, (if_neg h1).trans (if_pos h2)⟩)
    · exact .inr (.inr ⟨not_le.1 h2, not_lt.1 h1, (if_neg h1).trans (if_neg h2)⟩)

/-- A folded distance lies in (-6, +6] semitones, and leads from `s` to a point of its note
(41_quantizer.md R104, R106). -/
theorem foldedDistance_spec (s : Int) {i : Nat} (hi : i < 12) :
    -1536 < foldedDistance s (octaveOf (floorSemitone s)) i ∧
    foldedDistance s (octaveOf (floorSemitone s)) i ≤ 1536 ∧
    ∃ k : Int, s + foldedDistance s (octaveOf (floorSemitone s)) i = 256 * k ∧ k % 12 = i := by
  have ho : octaveOf (floorSemitone s) = s / 256 / 12 := rfl
  have hc := foldedDistance_cases s (octaveOf (floorSemitone s)) _ i rfl
  generalize foldedDistance s (octaveOf (floorSemitone s)) i = f at hc
  rw [ho] at hc
  rcases hc with ⟨h1, rfl⟩ | ⟨h1, rfl⟩ | ⟨h1, h2, rfl⟩
  · exact ⟨by omega, by omega, 12 * (s / 256 / 12) + i - 12, by omega, by omega⟩
  · exact ⟨by omega, by omega, 12 * (s / 256 / 12) + i + 12, by omega, by omega⟩
  · exact ⟨by omega, by omega, 12 * (s / 256 / 12) + i, by omega, by omega⟩

/-- The folded distance of a note is that of its nearest point, of two points equally near the upper. -/
theorem foldedDistance_of_point (s k : Int) (h : -1536 < 256 * k - s) (h' : 256 * k - s ≤ 1536) :
    foldedDistance s (octaveOf (floorSemitone s)) (k % 12).toNat = 256 * k - s := by
  obtain ⟨h1, h2, j, h3, h4⟩ := foldedDistance_spec s (i := (k % 12).toNat) (by omega)
  omega

/-- What the selection answers from a distance kept before: that distance or that of an enabled note of the
list, and no enabled note of the list nor the one kept before is strictly nearer. -/
theorem selectNearest_spec (mask : NoteMask) (s o : Int) (notes : List Nat) (best : Option Int) (d : Int)
    (h : selectNearest mask s o best notes = some d) :
    (best = some d ∨ ∃ i ∈ notes, mask.getLsbD i = true ∧ d = foldedDistance s o i) ∧
    (∀ b, best = some b → d.natAbs ≤ b.natAbs) ∧
    ∀ i ∈ notes, mask.getLsbD i = true → d.natAbs ≤ (foldedDistance s o i).natAbs := by
  induction notes generalizing best with
  | nil => simp_all [selectNearest]
  | cons i rest ih =>
    simp only [selectNearest] at h
    by_cases hm : mask.getLsbD i = true
    · rw [if_pos hm] at h
      obtain ⟨h1, h2, h3⟩ := ih _ h
      cases hb : best with
      | none =>
        subst hb
        have hi := h2 _ rfl
        refine ⟨.inr ?_, by simp, ?_⟩
        · rcases h1 with h1 | ⟨j, hj, hmj, hd⟩
          · exact ⟨i, by simp, hm, by simpa using h1.symm⟩
          · exact ⟨j, by simp [hj], hmj, hd⟩
        · intro j hj hmj
          rcases List.mem_cons.1 hj with rfl | hj
          · exact hi
          · exact h3 j hj hmj
      | some b =>
        subst hb
        by_cases hlt : (foldedDistance s o i).natAbs < b.natAbs
        · simp only [hlt, if_true] at h1 h2
          have hi := h2 _ rfl
          refine ⟨.inr ?_, ?_, ?_⟩
          · rcases h1 with h1 | ⟨j, hj, hmj, hd⟩
            · exact ⟨i, by simp, hm, by simpa using h1.symm⟩
            · exact ⟨j, by simp [hj], hmj, hd⟩
          · rintro _ ⟨⟩; omega
          · intro j hj hmj
            rcases List.mem_cons.1 hj with rfl | hj
            · exact hi
            · exact h3 j hj hmj
        · simp only [hlt, if_false] at h1 h2
          have hi := h2 _ rfl
          refine ⟨?_, ?_, ?_⟩
          · rcases h1 with h1 | ⟨j, hj, hmj, hd⟩
            · exact .inl h1
            · exact .inr ⟨j, by simp [hj], hmj, hd⟩
          · rintro _ ⟨⟩; omega
          · intro j hj hmj
            rcases List.mem_cons.1 hj with rfl | hj
            · omega
            · exact h3 j hj hmj
    · rw [if_neg hm] at h
      obtain ⟨h1, h2, h3⟩ := ih _ h
      refine ⟨?_, h2, ?_⟩
      · rcases h1 with h1 | ⟨j, hj, hmj, hd⟩
        · exact .inl h1
        · exact .inr ⟨j, by simp [hj], hmj, hd⟩
      · intro j hj hmj
        rcases List.mem_cons.1 hj with rfl | hj
        · exact absurd hmj hm
        · exact h3 j hj hmj

/-- The selection keeps what it has until a note is strictly nearer: over a list in two parts, the second
part changes the answer of the first only by a strictly nearer note. -/
theorem selectNearest_append (mask : NoteMask) (s o : Int) (best : Option Int) (first second : List Nat) :
    selectNearest mask s o best (first ++ second) =
      selectNearest mask s o (selectNearest mask s o best first) second := by
  induction first generalizing best with
  | nil => rfl
  | cons i rest ih => simp only [List.cons_append, selectNearest, ih]

/-- With a distance kept before, the selection answers it unless some enabled note is strictly nearer. -/
theorem selectNearest_keeps (mask : NoteMask) (s o : Int) (notes : List Nat) (b : Int)
    (h : ∀ i ∈ notes, mask.getLsbD i = true → b.natAbs ≤ (foldedDistance s o i).natAbs) :
    selectNearest mask s o (some b) notes = some b := by
  induction notes with
  | nil => rfl
  | cons i rest ih =>
    simp only [selectNearest]
    by_cases hm : mask.getLsbD i = true
    · rw [if_pos hm, if_neg (by have := h i (by simp) hm; omega)]
      exact ih fun j hj => h j (by simp [hj])
    · rw [if_neg hm]
      exact ih fun j hj => h j (by simp [hj])

/-- The selection has an answer exactly when it starts with one or an enabled note is in the list. -/
theorem selectNearest_isSome (mask : NoteMask) (s o : Int) (notes : List Nat) (best : Option Int) :
    (selectNearest mask s o best notes).isSome =
      (best.isSome || notes.any fun i => mask.getLsbD i) := by
  induction notes generalizing best with
  | nil => simp [selectNearest]
  | cons i rest ih =>
    simp only [selectNearest, ih, List.any_cons]
    cases best <;> by_cases h : mask.getLsbD i = true <;> simp [h]
    split <;> simp

/-- The pitch of `QuantizeQ8` is the point that the selected distance leads to. -/
theorem quantizeQ8_eq_some {mask : NoteMask} {s pitch : Int} (h : quantizeQ8 mask s = some pitch) :
    ∃ d, selectNearest mask s (octaveOf (floorSemitone s)) none (List.range 12) = some d ∧
      s + d = 256 * pitch ∧ -1536 < d ∧ d ≤ 1536 ∧
      ∃ i, i < 12 ∧ mask.getLsbD i = true ∧ pitch % 12 = i ∧
        d = foldedDistance s (octaveOf (floorSemitone s)) i := by
  obtain ⟨d, hd, hp⟩ := Option.map_eq_some_iff.1 h
  obtain ⟨h1, -, -⟩ := selectNearest_spec _ _ _ _ _ _ hd
  rcases h1 with h1 | ⟨i, hi, hm, rfl⟩
  · cases h1
  · obtain ⟨g1, g2, k, g3, g4⟩ := foldedDistance_spec s (i := i) (by simpa using hi)
    have : pitch = k := by
      simp only [floorSemitone, Config.semitone] at hp g3
      omega
    subst this
    exact ⟨_, hd, g3, g1, g2, i, by simpa using hi, hm, g4, rfl⟩

end Sys2Proof.Machine
end

