-- ==== Sys2Proof/Machine/Assembly.lean ====
section
/-! DEFINITION. The textual form of events and its pseudo-operations (spec/30_encoding.md R87, R88); none of
it is hardware, and no step reads it. -/

namespace Sys2Proof.Machine

/-- `.rept n` ... `.endr`: the enclosed events `n` times (30_encoding.md R88). -/
def rept (n : Nat) (events : List Instr) : List Instr := (List.replicate n events).flatten

/-- `SCAN12 l0 ... l11`: twelve BTNSTEP events with the levels of a list (30_encoding.md R88). -/
def scan12 (levels : List Bool) : List Instr := levels.map .btnstep

/-- `PRESS b`: `DEBOUNCE_W` times SCAN12 with `lb = 1` and all other levels 0 (30_encoding.md R88). -/
def press (p : Config.Params) (b : Fin 12) : List Instr :=
  rept p.debounceW (scan12 ((List.range 12).map fun i => i == b.val))

/-- `RELEASE`: `DEBOUNCE_W` times SCAN12 with all levels 0 (30_encoding.md R88). -/
def release (p : Config.Params) : List Instr := rept p.debounceW (scan12 (List.replicate 12 false))

/-- The characters without the spaces at both ends. -/
def trimSpaces (cs : List Char) : List Char :=
  ((cs.dropWhile (· == ' ')).reverse.dropWhile (· == ' ')).reverse

/-- The parts of a text between the commas. -/
def splitCommas (cs : List Char) : List (List Char) :=
  match cs with
  | [] => [[]]
  | c :: rest =>
    match c == ',', splitCommas rest with
    | true, parts => [] :: parts
    | false, [] => [[c]]
    | false, part :: parts => (c :: part) :: parts

/-- The value of a digit below the base. -/
def digitValue (base : Nat) (c : Char) : Option Nat :=
  let d := if '0' ≤ c ∧ c ≤ '9' then c.toNat - '0'.toNat
    else if 'a' ≤ c ∧ c ≤ 'f' then c.toNat - 'a'.toNat + 10
    else if 'A' ≤ c ∧ c ≤ 'F' then c.toNat - 'A'.toNat + 10
    else base
  if d < base then some d else none

/-- The digits of a number, most significant first. -/
def digits (base : Nat) (cs : List Char) (acc : Nat) : Option Nat :=
  match cs with
  | [] => some acc
  | c :: rest =>
    match digitValue base c with
    | some d => digits base rest (acc * base + d)
    | none => none

/-- A value, "decimal or `0x` hexadecimal" (30_encoding.md R87). -/
def numberText (cs : List Char) : Option Nat :=
  match cs with
  | [] => none
  | '0' :: 'x' :: [] => none
  | '0' :: 'x' :: ds => digits 16 ds 0
  | ds => digits 10 ds 0

/-- The names of the registers 0x00 to 0x0E, in the order of 10_state.md R42. -/
def registerNames : List String :=
  ["MASK", "SOUND", "SCANPOS", "PRESSED", "FLAGS", "LEDPINS", "DACCODE", "PREVEMIT", "PREVACC", "FILTACC",
   "GATECNT", "GATEST", "SAVECNT", "SAVEST", "NVCUR"]

/-- The number of the register a name of 10_state.md R42 stands for; `HIST b` is 0x10 + b. -/
def registerText (cs : List Char) : Option Nat :=
  match cs with
  | 'H' :: 'I' :: 'S' :: 'T' :: ' ' :: b => (digits 10 b 0).bind fun n => if n < 12 then some (0x10 + n) else none
  | _ =>
    let n := registerNames.findIdx fun name => name.toList == cs
    if n < registerNames.length then some n else none

/-- One operand `name=value`. A `reg` "may be given by the register name" (30_encoding.md R87). -/
def operandText (cs : List Char) : Option (List Char × Nat) :=
  let name := trimSpaces (cs.takeWhile (· != '='))
  let value := trimSpaces ((cs.dropWhile (· != '=')).drop 1)
  match numberText value with
  | some n => some (name, n)
  | none => if name = "reg".toList then (registerText value).map fun n => (name, n) else none

/-- The operands of a line; a line without operands has none. -/
def operandsText (cs : List Char) : Option (List (List Char × Nat)) :=
  if trimSpaces cs = [] then some [] else (splitCommas cs).mapM operandText

/-- The operand of that name, "an operand left out is 0" (30_encoding.md R87). -/
def operandValue (ops : List (List Char × Nat)) (name : String) : Nat :=
  ((ops.find? fun o => o.1 == name.toList).map (·.2)).getD 0

/-- The operand names of a mnemonic, in the order of 30_encoding.md R87, with the width of each field. -/
def operandFields (mnemonic : List Char) : List (String × Nat) :=
  if mnemonic = "QUANT".toList then [("sample", 16), ("mask", 12)]
  else if mnemonic = "BTNSTEP".toList ∨ mnemonic = "PANSTEP".toList then [("lvl", 1)]
  else if mnemonic = "NVWRITE".toList then [("mask", 12)]
  else if mnemonic = "TICK".toList then [("sample", 16), ("gc", 1), ("gt", 1)]
  else if mnemonic = "RDREG".toList then [("reg", 8)]
  else []

/-- The event of a mnemonic in capitals with the operands given. -/
def eventText (mnemonic : List Char) (v : String → Nat) : Option Instr :=
  if mnemonic = "NOP".toList then some .nop
  else if mnemonic = "QUANT".toList then some (.quant (BitVec.ofNat 16 (v "sample")) (BitVec.ofNat 12 (v "mask")))
  else if mnemonic = "BTNSTEP".toList then some (.btnstep (v "lvl" == 1))
  else if mnemonic = "LEDSTEP".toList then some .ledstep
  else if mnemonic = "PANSTEP".toList then some (.panstep (v "lvl" == 1))
  else if mnemonic = "NVREAD".toList then some .nvread
  else if mnemonic = "NVWRITE".toList then some (.nvwrite (BitVec.ofNat 12 (v "mask")))
  else if mnemonic = "TICK".toList then some (.tick (BitVec.ofNat 16 (v "sample")) (v "gc" == 1) (v "gt" == 1))
  else if mnemonic = "FLUSH".toList then some .flush
  else if mnemonic = "RDREG".toList then some (.rdreg (BitVec.ofNat 8 (v "reg")))
  else if mnemonic = "BOOT".toList then some .boot
  else if mnemonic = "RESET".toList then some .reset
  else none

/-- One line of the textual form (30_encoding.md R87): the mnemonic, then the operands of its format in their
order, each within its field; `;` starts a comment. -/
def assembleLine (cs : List Char) : Option Instr :=
  let line := trimSpaces (cs.takeWhile (· != ';'))
  let mnemonic := line.takeWhile (· != ' ')
  match operandsText (line.dropWhile (· != ' ')) with
  | none => none
  | some ops =>
    let fields := operandFields mnemonic
    let named := (ops.map (·.1)).isSublist (fields.map fun f => f.1.toList)
    let fits := fields.all fun f => decide (operandValue ops f.1 < 2 ^ f.2)
    if named && fits then eventText mnemonic (operandValue ops) else none

end Sys2Proof.Machine
end

