-- ==== Sys2Proof/Tests/Slice0.lean ====
section
/-! SUPPORT. Tests of the model: words and expected results from spec/95_test_vectors.md and spec/30_encoding.md
R87 unless a comment says otherwise, and for every obligation with hypotheses a witness that meets them. -/

namespace Sys2Proof.Tests

open Sys2Proof.Machine Sys2Proof.Safety

/-- The answer of an event that completes. -/
def rspOf (o : Host.Outcome State Fault Refusal) : Option Word :=
  match o with
  | .next t => t.rsp
  | _ => none

/-- A field of the next state. -/
def fieldOf {α : Type} (f : State → α) (o : Host.Outcome State Fault Refusal) : Option α :=
  match o with
  | .next t => some (f t)
  | _ => none

/-- The slots `k`, `k + 1`, ... of a medium, as (PAYLO, PAYHI, SEQ). -/
def slots (k : Nat) (l : List (Byte × Byte × Byte)) : Memory :=
  match l with
  | [] => []
  | (lo, hi, seq) :: rest => (3 * k, lo) :: (3 * k + 1, hi) :: (3 * k + 2, seq) :: slots (k + 1) rest

/-- The block on the medium `nv`, after NVREAD or BOOT found the given current slot. -/
def withLog (nv : Memory) (idx : BitVec 7) (seq : BitVec 8) (pay : NoteMask) : State :=
  { State.reset with nv := nv, curIdx := idx, curSeq := seq, curPay := pay, nvValid := true }

/-- The block in its reset state on the medium `nv`. -/
def onMedium (nv : Memory) : State := { State.reset with nv := nv }

/-- The block after BOOT on an erased medium (95_test_vectors.md section 4.1). -/
def booted : State := { withLog [] 0#7 0xFF#8 0xFFF#12 with mask := 0xFFF#12 }

/-! ### The operand ranges (30_encoding.md R83): one ill-formed event for each check -/

theorem test_wf_quant_empty_mask : Instr.wellFormed Config.t0 (.quant 512#16 0#12) = false := by decide
theorem test_wf_quant_sample : Instr.wellFormed Config.t0 (.quant 1024#16 1#12) = false := by decide
theorem test_wf_tick_sample : Instr.wellFormed Config.t0 (.tick 1024#16 false false) = false := by decide
theorem test_wf_rdreg_0F : Instr.wellFormed Config.t0 (.rdreg 0x0F#8) = false := by decide
theorem test_wf_rdreg_1C : Instr.wellFormed Config.t0 (.rdreg 0x1C#8) = false := by decide
theorem test_wf_rdreg_FF : Instr.wellFormed Config.t0 (.rdreg 0xFF#8) = false := by decide
theorem test_wf_in_range : Instr.wellFormed Config.t0 (.quant 1023#16 1#12) = true ∧
    Instr.wellFormed Config.t0 (.rdreg 0x1B#8) = true := by decide

/-! ### Decoding, word by word: `op`, `sample`, `mask` written out as 30_encoding.md R81 and R82 lay them -/

theorem test_decode_nop : decode 0b0000_0000000000000000_000000000000#32 = .ok .nop := by decide
theorem test_decode_quant :
    decode 0b0001_0000001000000000_101010110101#32 = .ok (.quant 512#16 0xAB5#12) := by decide
theorem test_decode_btnstep :
    decode 0b0010_0000000000000000_000000000001#32 = .ok (.btnstep true) := by decide
theorem test_decode_ledstep : decode 0b0011_0000000000000000_000000000000#32 = .ok .ledstep := by decide
theorem test_decode_panstep :
    decode 0b0100_0000000000000000_000000000001#32 = .ok (.panstep true) := by decide
theorem test_decode_nvread : decode 0b1000_0000000000000000_000000000000#32 = .ok .nvread := by decide
theorem test_decode_nvwrite :
    decode 0b1001_0000000000000000_111111111110#32 = .ok (.nvwrite 0xFFE#12) := by decide
theorem test_decode_tick :
    decode 0b1010_0000000001100100_000000000010#32 = .ok (.tick 100#16 true false) := by decide
theorem test_decode_flush : decode 0b1011_0000000000000000_000000000000#32 = .ok .flush := by decide
theorem test_decode_rdreg :
    decode 0b1100_0000000000000000_000000001110#32 = .ok (.rdreg 0x0E#8) := by decide
theorem test_decode_boot : decode 0b1110_0000000000000000_000000000000#32 = .ok .boot := by decide
theorem test_decode_reset : decode 0b1111_0000000000000000_000000000000#32 = .ok .reset := by decide

/-- 95_test_vectors.md section 6, clauses (a) and (b). -/
theorem test_decode_refuses :
    decode 0x50000000#32 = .error (.reservedOpcode 5) ∧ decode 0xD0000000#32 = .error (.reservedOpcode 13) ∧
    [0x00000001#32, 0x20000002#32, 0x30000001#32, 0x80001000#32, 0x90001001#32, 0xC0000F00#32, 0xA0200004#32,
      0xE0000001#32, 0xF0000010#32].map decode = List.replicate 9 (.error .reservedField) := by decide

/-- 30_encoding.md R87, its examples. -/
theorem test_assembler :
    (assembleLine "QUANT sample=512, mask=0xAB5".toList).map encode = some 0x10200AB5#32 ∧
    (assembleLine "TICK sample=100, gc=1, gt=1".toList).map encode = some 0xA0064003#32 ∧
    (assembleLine "RDREG reg=NVCUR".toList).map encode = some 0xC000000E#32 := by decide +kernel

/-- 30_encoding.md R88: with T0, `PRESS b` is 48 events. -/
theorem test_press : (press Config.t0 3).length = 48 ∧ (press Config.t0 3)[15]? = some (.btnstep true) := by
  decide

/-! ### NOP, RDREG, BOOT, RESET -/

theorem test_nop : exec .nop booted = .next { booted with rsp := some 0#32 } := rfl

theorem test_rdreg_nvcur :
    rspOf (exec (.rdreg 0x0E#8) (withLog [] 2#7 0x81#8 0x082#12)) = some 0x00828102#32 := by decide +kernel

theorem test_rdreg_sound_at_reset : rspOf (exec (.rdreg 0x01#8) State.reset) = some 0x0000000F#32 := by
  decide +kernel

/-- Section 3.4: `NV` slot 0 = `01,00,00`. -/
theorem test_boot : fieldOf State.mask (exec .boot (onMedium (slots 0 [(1#8, 0#8, 0#8)]))) =
    some 0x001#12 := by decide +kernel

theorem test_reset_keeps_nv :
    exec .reset (withLog (slots 1 [(0xB5#8, 0x0A#8, 0#8)]) 1#7 0#8 0xAB5#12) =
      .next { State.reset with nv := slots 1 [(0xB5#8, 0x0A#8, 0#8)], rsp := some 0#32 } := rfl

/-! ### QUANT (section 2.1) -/

theorem test_quant_tie : rspOf (exec (.quant 512#16 0xAB5#12) State.reset) = some 0x0000001D#32 := by
  decide +kernel

theorem test_quant_negative : rspOf (exec (.quant 0#16 0x800#12) State.reset) = some 0x0000FFFF#32 := by
  decide +kernel

/-! ### BTNSTEP (section 3.1, samples 6 and 14), LEDSTEP (section 3.3, step 6), PANSTEP (section 3.4) -/

theorem test_btnstep_press :
    rspOf (exec (.btnstep true) { State.reset with hist := State.reset.hist.set 0 0b0111#8 }) =
      some 0x00010000#32 := by decide +kernel

theorem test_btnstep_release :
    fieldOf State.pressed (exec (.btnstep false)
      { State.reset with hist := State.reset.hist.set 0 0b1000#8, pressed := 1#12 }) = some 0#12 := by
  decide +kernel

theorem test_ledstep_sounding :
    fieldOf ledpinsWord (exec .ledstep { State.reset with mask := 0xAB5#12, sound := 5#4, ledIdx := 5 }) =
      some 0x02C#32 := by decide +kernel

theorem test_ledstep_answer :
    rspOf (exec .ledstep { State.reset with mask := 0xAB5#12, sound := 5#4, ledIdx := 11 }) =
      some 0x0000002B#32 := by decide +kernel

theorem test_panstep : rspOf (exec (.panstep false) { State.reset with mask := 1#12 }) = some 0x00002000#32 := by
  decide +kernel

/-! ### NVREAD, NVWRITE (sections 4.1, 4.3, 4.5), FLUSH (P1) -/

/-- Section 4.5 (a): the run 5, 6, 7 ends at slot 2, and the pad bits of PAYHI are dropped. -/
theorem test_nvread_run :
    fieldOf nvcurWord (exec .nvread (onMedium (slots 0
      [(0x11#8, 0x01#8, 5#8), (0x22#8, 0x02#8, 6#8), (0x33#8, 0xF3#8, 7#8), (0x44#8, 0x04#8, 9#8)]))) =
      some 0x03330702#32 := by decide +kernel

/-- Section 4.5 (c), R243: the written mask is not recovered. -/
theorem test_nvread_false_continuation :
    fieldOf nvcurWord (exec .nvread (onMedium [(2, 0xFD#8), (3, 0x23#8), (4, 0x01#8), (5, 0xFE#8)]))
      = some 0x0FFFFF02#32 := by decide +kernel

theorem test_nvwrite_first :
    fieldOf State.nv (exec (.nvwrite 0xAB5#12) booted) = some (slots 1 [(0xB5#8, 0x0A#8, 0x00#8)]) := by
  decide +kernel

/-- Section 4.3: write 128 goes to slot 0. -/
theorem test_nvwrite_wraps :
    fieldOf nvcurWord (exec (.nvwrite 128#12) (withLog (slots 127 [(0x7F#8, 0#8, 0x7E#8)]) 127#7 0x7E#8 127#12)) =
      some 0x00807F00#32 := by decide +kernel

theorem test_flush_writes :
    rspOf (exec .flush { booted with mask := 0xFFE#12, saveEl := true }) = some 3#32 := by decide +kernel

theorem test_flush_nothing_to_do :
    rspOf (exec .flush { booted with mask := 0xFFE#12 }) = some 0#32 := by decide +kernel

/-! ### TICK (section 1.7) -/

theorem test_tick_first : rspOf (exec (.tick 512#16 false false) booted) = some 0x0003003C#32 := by decide +kernel

theorem test_tick_gate_runs_out :
    rspOf (exec (.tick 514#16 false false)
      { booted with filtAcc := 513#32, prevAcc := 512#16, prevEmit := 30#16, emitValid := true, sound := 6#4,
                    dacCode := 60#16, gate := true, gateCnt := 1#32, gateSt := .running }) =
      some 0x0004003C#32 := by decide +kernel

/-! ### Loss of power (section 4.4) -/

/-- The end state of section 4.3, as far as the torn write touches it. -/
def tornStart : State := withLog (slots 0 [(0x80#8, 0#8, 0x7F#8), (0x81#8, 0#8, 0x80#8), (0x82#8, 0#8, 0x81#8),
  (3#8, 0#8, 2#8)]) 2#7 0x81#8 0x082#12

theorem test_powerfail_garbage :
    fieldOf State.nv (step { tornStart with inbox := [.powerFailDuring 0x90000555#32 2 (some 0x13#8)] }) =
      some (slots 0 [(0x80#8, 0#8, 0x7F#8), (0x81#8, 0#8, 0x80#8), (0x82#8, 0#8, 0x81#8),
        (0x55#8, 0x05#8, 0x13#8)]) := by decide +kernel

theorem test_powerfail_before_payhi :
    fieldOf State.nv (step { tornStart with inbox := [.powerFailDuring 0x90000555#32 1 none] }) =
      some (slots 0 [(0x80#8, 0#8, 0x7F#8), (0x81#8, 0#8, 0x80#8), (0x82#8, 0#8, 0x81#8),
        (0x55#8, 0#8, 2#8)]) := by decide +kernel

/-! ### The host's two functions -/

theorem test_decodeTableWord : decodeTableWord 32 0xA012C000 = some (.tick 300#16 false false) := by decide

theorem test_withFetchWord :
    rspOf (step (State.reset.withFetchWord 32 0x103FF002)) = some 0x0000003D#32 := by decide +kernel

/-! ### Witnesses: states and operands that meet the hypotheses of the obligations, at the ends of their ranges.
They are concrete cases of this model, not results of the spec. -/

/-- Case DecodeEncodeAgree, DecoderAcceptsExactlyTheOpcodeTable: a word of a row, and its event. -/
theorem witness_decoded_word : ⟨"QUANT", 0x10000000#32, 0xF0000000#32⟩ ∈ opcodeTable ∧
    0x1FFFFFFF#32 &&& 0xF0000000#32 = 0x10000000#32 ∧
    decode 0x1FFFFFFF#32 = .ok (.quant 0xFFFF#16 0xFFF#12) := by decide

theorem witness_step_runs :
    (deliver 0xE0000000#32 State.reset).inbox = .event 0xE0000000#32 :: [] ∧ decode 0xE0000000#32 = .ok .boot := by
  decide

/-- Both ends of the statement: a reserved opcode, and a reserved bit. -/
theorem witness_outside_event_set : OutsideEventSet 0x50000000#32 ∧ OutsideEventSet 0xDFFFFFFF#32 ∧
    OutsideEventSet 0x00000001#32 ∧ OutsideEventSet 0xF8000000#32 := by
  unfold OutsideEventSet; decide +kernel

theorem witness_refused_step : step (deliver 0xB0000000#32 State.reset) = .refused .logNotRecovered ∧
    step State.reset = .next State.reset ∧ State.reset.inbox = [] := ⟨rfl, rfl, rfl⟩

/-- Each clause of `Refused`, and events that are not refused. -/
theorem witness_refused_events :
    Refused (.quant 0#16 0#12) State.reset ∧ Refused (.quant 1024#16 1#12) State.reset ∧
    Refused (.tick 1024#16 true true) State.reset ∧ Refused (.rdreg 0x0F#8) State.reset ∧
    Refused (.rdreg 0x1C#8) State.reset ∧ Refused .flush State.reset ∧ Refused (.nvwrite 0#12) State.reset ∧
    ¬ Refused (.quant 1023#16 1#12) State.reset ∧ ¬ Refused (.rdreg 0x1B#8) State.reset ∧
    ¬ Refused .flush booted ∧ ¬ Refused .nop State.reset := by
  unfold Refused; decide

theorem witness_event_completes : exec .flush booted = .next { booted with rsp := some 0#32 } := rfl

theorem witness_reset_completes : (∃ t, exec .reset { booted with inbox := [] } = .next t) ∧
    ({ booted with inbox := [.resetInput] } : State).inbox = .resetInput :: [] ∧
    ({ booted with inbox := [.powerFail] } : State).inbox = .powerFail :: [] := ⟨⟨_, rfl⟩, rfl, rfl⟩

/-- The two events a loss of power can cut short. -/
theorem witness_powerfail_write :
    booted.nvValid = true ∧ 0x555#12 ≠ booted.curPay ∧ decode 0x90000555#32 = .ok (.nvwrite 0x555#12) ∧
    decode 0xB0000000#32 = .ok .flush ∧
    ({ booted with mask := 0x555#12, saveEl := true } : State).nvValid = true := by decide

/-- A suppressed write, a FLUSH with nothing to do, and a word that is no event. -/
theorem witness_powerfail_elsewhere :
    (∀ mask, decode 0x90000FFF#32 = .ok (.nvwrite mask) → booted.nvValid = true → mask = booted.curPay) ∧
    (decode 0x90000FFF#32 = .ok .flush → booted.nvValid = true → booted.saveEl = true →
      booted.mask = booted.curPay) := by
  refine ⟨?_, by decide⟩
  rintro mask ⟨⟩ -
  rfl

theorem witness_quantizer_range :
    (1#12 : NoteMask) ≠ 0#12 ∧ (0#16 : Sample).toNat ≤ adcMax State.reset.params ∧
    (1023#16 : Sample).toNat ≤ adcMax State.reset.params ∧ adcMax State.reset.params < (1024#16 : Sample).toNat := by
  decide

theorem witness_quantizer_value : quantizeQ8 0x800#12 0 = some (-1) := by decide +kernel

/-- Section 2.2: a tie of two notes, and a tie of one note with itself an octave lower. -/
theorem witness_quantizer_tie :
    quantizeQ8 0x208#12 7680 = some 27 ∧ (0x208#12).getLsbD 9 = true ∧
    (256 * (33 : Int) - 7680).natAbs = (256 * (27 : Int) - 7680).natAbs ∧
    quantizeQ8 0x001#12 7680 = some 36 ∧ (256 * (24 : Int) - 7680).natAbs = (256 * (36 : Int) - 7680).natAbs := by
  decide +kernel

theorem witness_monotone : Legal Config.t0 ∧ quantizeQ8 1#12 (pt1 Config.t0 0) = some 0 ∧
    quantizeQ8 1#12 (pt1 Config.t0 1023) = some 60 := ⟨legal_t0, by decide +kernel, by decide +kernel⟩

/-- A legal parameter set whose output codes fit: two codes, five and six semitones, and DAC_MAX at its bound. -/
def converter : Config.Params :=
  { Config.t0 with adcBits := 1, pt1 := .entries [1280#16, 1536#16], dacMax := some 24, deadband := 1 }

theorem legal_converter : Legal converter where
  adcBits := by decide
  tableTotal := fun code h => by
    have : code ≤ 1 := h
    interval_cases code <;> rfl
  tableFits := fun k h => by cases h
  tableRises := fun a b hab hb => by
    have : b ≤ 1 := hb
    have h : pt1 converter 0 = 1280 ∧ pt1 converter 1 = 1536 := ⟨rfl, rfl⟩
    interval_cases b <;> interval_cases a <;> simp [h.1, h.2]
  window := by decide
  filter := by decide
  deadband := by decide
  gateTicks := by decide
  autosaveTicks := by decide
  pinsDiffer := by decide
  pairsDiffer := by decide

theorem witness_converter : Legal converter ∧ converter.dacMax = some 24 ∧ 1280 ≤ pt1 converter 0 ∧
    2 * (pt1 converter (adcMax converter) / 256 + 6) ≤ (24 : Int) ∧ quantizeQ8 0x020#12 (pt1 converter 0) = some 5 :=
  ⟨legal_converter, rfl, by decide +kernel, by decide +kernel, by decide +kernel⟩

/-- Both forms of Pitch Table 1, each at its last code. -/
theorem witness_pitch_tables : 1023 ≤ adcMax Config.t0 ∧ Config.t0.pt1 = .linear 15 ∧ 1 ≤ adcMax converter ∧
    converter.pt1 = .entries [1280#16, 1536#16] ∧ [1280#16, 1536#16][1]? = some 1536#16 := by decide

/-- The two ends of the debounce window, and a shift that fills it (an edge) and one that does not. -/
theorem witness_btnstep :
    2 ≤ ({ Config.t0 with debounceW := 2 } : Config.Params).debounceW ∧
    ({ Config.t0 with debounceW := 8 } : Config.Params).debounceW ≤ 8 ∧
    (11 : Fin 12).val = (2 : Fin 3).val * 4 + (3 : Fin 4).val ∧
    (shiftHistory 8 0x7F#8 true).toNat = 2 ^ 8 - 1 ∧ (shiftHistory 8 0x7F#8 false).toNat ≠ 2 ^ 8 - 1 ∧
    (shiftHistory 2 1#8 true).toNat = 2 ^ 2 - 1 := by decide

/-- Twelve button steps of both kinds. -/
def twelveSteps : List Instr := [.panstep true] ++ List.replicate 10 (.btnstep false) ++ [.panstep false]

theorem witness_twelve_steps :
    twelveSteps.length = 12 ∧ ∀ i ∈ twelveSteps, ∃ lvl, i = .btnstep lvl ∨ i = .panstep lvl := by
  refine ⟨rfl, fun i hi => ?_⟩
  simp only [twelveSteps, List.mem_append, List.mem_singleton, List.mem_replicate] at hi
  rcases hi with (rfl | ⟨-, rfl⟩) | rfl
  · exact ⟨_, .inr rfl⟩
  · exact ⟨_, .inl rfl⟩
  · exact ⟨_, .inr rfl⟩

/-- A second edge after a full release, and a first edge, with the shortest window. -/
theorem witness_bouncing :
    (debounce 2 (debounceRun 2 (fullWindow 2) true [false, false, true]).1
      (debounceRun 2 (fullWindow 2) true [false, false, true]).2 true).edge = true ∧
    (debounce 2 (debounceRun 2 0#8 false [true]).1 (debounceRun 2 0#8 false [true]).2 true).edge = true ∧
    (debounce 8 (debounceRun 8 0#8 false (List.replicate 7 true)).1
      (debounceRun 8 0#8 false (List.replicate 7 true)).2 true).edge = true := by decide

theorem witness_ledstep : State.reset.params.ledPins[State.reset.ledIdx] = (0, 1) ∧ (0 : Fin 6) ≠ 1 := by decide

theorem witness_equal_bytes : ∀ a, a < 384 → nvByte State.reset a = 0xFF#8 := fun _ _ => rfl

/-- The next slot at its two ends: slot 127, and slot 0 after it. -/
theorem witness_nvwrite :
    (withLog [] 126#7 0#8 0#12).nvValid = true ∧ 1#12 ≠ (withLog [] 126#7 0#8 0#12).curPay ∧
    (withLog [] 127#7 0xFF#8 0#12).nvValid = true ∧ 1#12 ≠ (withLog [] 127#7 0xFF#8 0#12).curPay ∧
    State.reset.nvValid = false := by decide

theorem witness_recovery_completes : ∃ t, exec .nvread State.reset = .next t ∨ exec .boot State.reset = .next t :=
  ⟨_, .inl rfl⟩

theorem witness_flush : booted.nvValid = true ∧ booted.saveEl = false ∧
    ({ booted with mask := 1#12, saveEl := true } : State).saveEl = true := by decide

/-- The log after BOOT on an erased medium is healthy: its run is slot 0 alone. -/
theorem logOk_booted (stimuli : List Stimulus) : LogOk { booted with inbox := stimuli } := by
  have hpay : (0xFFF#12 : NoteMask) = (0xFF#8 ++ 0xFF#8).extractLsb' 0 12 := by decide
  refine ⟨0, 0xFF#8, ⟨by decide, ?_, ?_⟩, fun _ => ⟨rfl, rfl, hpay⟩⟩
  · intro j hj
    obtain rfl : j = 0 := by omega
    rfl
  · intro j hj hj'
    have h : slotSeq { booted with inbox := stimuli } j = 0xFF#8 := rfl
    simp only [Config.ringN] at hj'
    rw [h]; bv_omega

theorem witness_healthy_step : LogOk { booted with inbox := [.event 0x90000AB5#32] } ∧
    ∃ t, step { booted with inbox := [.event 0x90000AB5#32] } = .next t := ⟨logOk_booted _, _, rfl⟩

/-- A power-on on an erased medium, and one on the medium of section 4.5 (a) cut after its run 5, 6, 7. -/
theorem witness_recovered_run :
    (∀ a, a < 384 → nvByte (State.powerOn Config.t0 []) a = 0xFF#8) ∧
    RunEndsAt (State.powerOn Config.t0 (slots 0 [(0x11#8, 0x01#8, 5#8), (0x22#8, 0x02#8, 6#8),
      (0x33#8, 0xF3#8, 7#8)])) 2 5#8 ∧
    ∃ s, Sys2Proof.core.run 1 { State.powerOn Config.t0 [] with inbox := [.event 0x80000000#32] } = .next s ∧
      s.nvValid = true := by
  have hrun : ∀ j : Fin 128, decide (slotSeq (State.powerOn Config.t0 (slots 0 [(0x11#8, 0x01#8, 5#8),
      (0x22#8, 0x02#8, 6#8), (0x33#8, 0xF3#8, 7#8)])) j.val = 5#8 + BitVec.ofNat 8 j.val) = decide (j.val ≤ 2) := by
    decide +kernel
  refine ⟨fun _ _ => rfl, ⟨by decide, fun j hj => ?_, fun j hj hj' => ?_⟩, _, rfl, rfl⟩
  · simpa [hj] using hrun ⟨j, by omega⟩
  · simpa [Nat.not_le.2 hj] using hrun ⟨j, hj'⟩

/-- Two media in canonical form that are not erased: the first and the last address. -/
theorem witness_power_on_medium : Legal Config.t0 ∧ Memory.wf Config.t0.nvErased [(0, 0x01#8)] ∧
    Memory.wf Config.t0.nvErased [(2, 0xFD#8), (383, 0x00#8)] := ⟨legal_t0, by decide, by decide⟩

/-- A torn write of each of the two events, cut after `j` writes. -/
theorem witness_torn_write (j : Fin 4) (g : Option Byte) :
    LogOk { booted with mask := 1#12, saveEl := true, inbox := [.powerFailDuring 0xB0000000#32 j g] } ∧
    LogOk { booted with inbox := [.powerFailDuring 0x90000555#32 j g] } ∧
    ∃ t u, step { booted with inbox := [.powerFailDuring 0x90000555#32 j g] } = .next t ∧
      exec .nvread t = .next u := by
  obtain ⟨k, b, h1, h2⟩ := logOk_booted [.powerFailDuring 0xB0000000#32 j g]
  exact ⟨⟨k, b, h1, h2⟩, logOk_booted _, _, _, rfl, rfl⟩

/-- A ring that is full: slot `k` has the sequence number `k` (as in section 4.5 (b), with another first number). -/
def fullRing : Memory := slots 0 ((List.range 128).map fun k => (0#8, 0#8, BitVec.ofNat 8 k))

/-- The log at the wrap, current slot 127, with the write of a mask by the word `cmd` cut short in SEQ. -/
def wrapped (cmd : Word) (g : Byte) : State :=
  { withLog fullRing 127#7 127#8 0#12 with
      mask := 0x555#12, saveEl := true, inbox := [.powerFailDuring cmd 2 (some g)] }

/-- The log at the wrap is healthy; a torn NVWRITE of 0x555 and a torn FLUSH of it, with 5 left in SEQ. -/
theorem witness_torn_slot_zero (cmd : Word) : LogOk (wrapped cmd 5#8) ∧ (wrapped cmd 5#8).curIdx.toNat = 127 ∧
    5#8 ≠ nvByte (wrapped cmd 5#8) 2 ∧ 5#8 ≠ (wrapped cmd 5#8).curSeq + 1#8 ∧
    decode 0x90000555#32 = .ok (.nvwrite 0x555#12) ∧ decode 0xB0000000#32 = .ok .flush ∧
    (wrapped cmd 5#8).saveEl = true ∧ (wrapped cmd 5#8).mask = 0x555#12 ∧ (wrapped cmd 5#8).curPay ≠ 0x555#12 := by
  have hseq : ∀ j : Fin 128, slotSeq (wrapped 0#32 5#8) j.val = 0#8 + BitVec.ofNat 8 j.val := by decide +kernel
  refine ⟨⟨127, 0#8, ⟨by decide, fun j hj => hseq ⟨j, by omega⟩, ?_⟩, fun _ => ⟨rfl, rfl, ?_⟩⟩, rfl, ?_,
    (by decide : 5#8 ≠ 127#8 + 1#8), by decide, by decide, rfl, rfl, (by decide : 0#12 ≠ 0x555#12)⟩
  · intro j hj hj'
    simp only [Config.ringN] at hj'
    omega
  · change 0#12 = slotPayload (wrapped 0#32 5#8) 127
    decide +kernel
  · change 5#8 ≠ nvByte (wrapped 0#32 5#8) 2
    decide +kernel

theorem witness_timer : 1 ≤ (1#32).toNat ∧ 1 ≤ (3#32).toNat ∧ tickTimes 2 3#32 .running = ⟨1#32, .running, false⟩ ∧
    tickTimes 3 3#32 .running = ⟨0#32, .expired, true⟩ ∧ tickTimes 4 3#32 .running = ⟨0#32, .idle, false⟩ := by
  decide

theorem witness_tick_filter : Legal State.reset.params ∧
    ({ State.reset with filtAcc := 1023#32 } : State).filtAcc.toNat ≤
      adcMax State.reset.params * 2 ^ State.reset.params.filterK ∧
    (1023#16 : Sample).toNat ≤ adcMax State.reset.params := ⟨legal_t0, by decide, by decide⟩

theorem witness_tick_completes : ∃ t, exec (.tick 0#16 false false) { booted with touch := true } = .next t :=
  ⟨_, rfl⟩

theorem witness_tick_masks : State.reset.mask = 0#12 ∧ booted.mask ≠ 0#12 ∧
    (0#16 : Sample).toNat ≤ adcMax booted.params := by decide

/-- The block with note 0 enabled, before a pitch was emitted and after pitch 0 was. -/
def playing (emitted : Bool) : State :=
  { State.reset with mask := 1#12, emitValid := emitted, sound := if emitted then 0#4 else 0xF#4 }

theorem inv_playing (emitted : Bool) : Inv (playing emitted) where
  legal := legal_t0
  window := by cases emitted <;> decide
  leds := .inl (by cases emitted <;> decide)
  filter := by cases emitted <;> decide
  accepted := by cases emitted <;> decide
  silent := by cases emitted <;> decide
  sounding := by cases emitted <;> decide
  gateRuns := by cases emitted <;> decide
  gateTimer := by cases emitted <;> unfold TimerOk <;> decide
  saveTimer := by cases emitted <;> unfold TimerOk <;> decide
  elapsed := by cases emitted <;> decide
  cache := by cases emitted <;> intro h <;> cases h
  code := by cases emitted <;> decide
  medium := by cases emitted <;> decide

/-- Both clauses of the statement: a new pitch, and the pitch already emitted. -/
theorem witness_running_tick : Inv (playing false) ∧ Inv (playing true) ∧ (playing true).mask ≠ 0#12 ∧
    ¬ ((playing false).emitValid = true ∧ (playing false).prevEmit.toInt = 0) ∧
    ((playing true).emitValid = true ∧ (playing true).prevEmit.toInt = 0) :=
  ⟨inv_playing _, inv_playing _, by decide, by decide, by decide⟩

/-- The filtered sample 7 is the last inside the deadband of 8 around 0. -/
theorem witness_deadband :
    quantizeQ8 (playing true).mask (pt1 (playing true).params (playing true).prevAcc.toNat) = some 0 ∧
    (((filterNext (playing true).params.filterK (playing true).filtAcc 7#16).toNat /
      2 ^ (playing true).params.filterK : Nat) - ((playing true).prevAcc.toNat : Int)).natAbs
        < (playing true).params.deadband ∧
    ∃ t, exec (.tick 7#16 false false) (playing true) = .next t :=
  ⟨by decide +kernel, by decide +kernel, _, rfl⟩

theorem witness_autosave : 1 ≤ ({ booted with touch := true } : State).params.autosaveTicks.toNat ∧
    (List.replicate 5 ((0#16 : Sample), false, false)).length = booted.params.autosaveTicks.toNat ∧
    (List.replicate 5 ((0#16 : Sample), false, false)).all (fun x => decide (x.1.toNat ≤ adcMax booted.params)) := by
  decide

/-- A register of the list of RdregReadsTheRegisters, and the ends of the refused numbers. -/
theorem witness_rdreg : ((0x01, booted.sound.toNat) : Nat × Nat) ∈ [(0x00, booted.mask.toNat), (0x01, booted.sound.toNat)] ∧
    0x1C ≤ (0x1C#8 : BitVec 8).toNat ∧ 0x1C ≤ (0xFF#8 : BitVec 8).toNat := by decide

theorem witness_owners : (∃ t, exec .flush { booted with saveEl := true } = .next t) ∧ Instr.flush ≠ .reset :=
  ⟨⟨_, rfl⟩, by decide⟩

/-- A tick that accepts a sample and emits a pitch, from a state with the invariants, and an idle step. -/
theorem witness_invariant_step :
    Inv (deliver 0xA0200000#32 (playing false)) ∧ (∃ t, step (deliver 0xA0200000#32 (playing false)) = .next t) ∧
    rspOf (step (deliver 0xA0200000#32 (playing false))) = some 0x00030048#32 ∧
    Inv (playing true) ∧ step (playing true) = .next (playing true) := by
  have h := inv_playing false
  exact ⟨⟨h.1, h.2, h.3, h.4, h.5, h.6, h.7, h.8, h.9, h.10, h.11, h.12, h.13, h.14⟩, ⟨_, rfl⟩,
    by decide +kernel, inv_playing _, rfl⟩

end Sys2Proof.Tests
end

