-- ==== Sys2Proof/Proofs/Scope.lean ====
section
/-! PROOFS. How events arrive (spec/00_scope.md R10, spec/20_memory.md R69). -/

namespace Sys2Proof.Proofs

open Sys2Proof.Machine

/-- The event arm of `step`, by what the environment delivers: the state the event starts from is the one
`takeStimulus` hands over. -/
theorem step_eq_exec_of_takeStimulus {s t : State} {cmd : Word} {i : Instr}
    (htake : takeStimulus s = some (.event cmd, t)) (hdec : decode cmd = .ok i) : step s = exec i t := by
  simp only [step, htake, hdec]

/-- Settles O4: the delivered event is the head of the stream, and taking it leaves the rest. -/
theorem stepRunsTheDeliveredEvent : Obligations.StepRunsTheDeliveredEvent := by
  intro s cmd rest i hinbox hdec
  have htake : takeStimulus s = some (.event cmd, { s with inbox := rest }) := takeStimulus_cons hinbox
  exact step_eq_exec_of_takeStimulus htake hdec

end Sys2Proof.Proofs
end

/-! PROOFS. The state (spec/10_state.md): what a completed event makes of it, who owns each register (R43), what
RDREG reads (R42), the reset values (R45), and the invariants of R44 at reset and over every step. -/

namespace Sys2Proof.Proofs

open Sys2Proof.Machine Sys2Proof.Safety

/-! ### What a completed event makes of the state -/

/-- The state a completed event leaves, but for the answer. -/
def effect (i : Instr) (s : State) : State :=
  match i with
  | .nop => s
  | .quant _ _ => s
  | .btnstep lvl => buttonStep lvl s
  | .ledstep => ledShow s
  | .panstep lvl => ledShow (buttonStep lvl (blankPins s))
  | .nvread => recover s
  | .nvwrite mask => writeMask mask s
  | .tick sample gc gt => tickState sample gc gt s
  | .flush => if s.saveEl then { writeMask s.mask s with saveEl := false } else s
  | .rdreg _ => s
  | .boot => { recover s with mask := (recover s).curPay }
  | .reset => clearVolatile s

/-- A completed event answers, and leaves its effect: the one inversion of `exec`. -/
theorem eq_answer_effect_of_exec {i : Instr} {s t : State} (h : exec i s = .next t) :
    ∃ r, t = answer r (effect i s) := by
  cases i with
  | quant sample mask =>
    simp only [exec, execQuant] at h
    split at h
    · cases h
    · split at h
      · split at h
        · cases h; exact ⟨_, rfl⟩
        · cases h
      · cases h
  | nvwrite mask =>
    simp only [exec, execNvwrite] at h
    split at h
    · cases h; exact ⟨_, rfl⟩
    · cases h
  | tick sample gc gt => exact ⟨_, (execTick_next_iff.1 h).2⟩
  | flush =>
    simp only [exec, execFlush] at h
    split at h
    · split at h <;> rename_i helapsed <;> cases h
      · exact ⟨_, congrArg _ (if_pos helapsed).symm⟩
      · exact ⟨_, congrArg _ (if_neg helapsed).symm⟩
    · cases h
  | rdreg reg =>
    simp only [exec, execRdreg] at h
    split at h
    · cases h; exact ⟨_, rfl⟩
    · cases h
  | nop | btnstep | ledstep | panstep | nvread | boot | reset => cases h; exact ⟨_, rfl⟩

/-! ### The owners of the registers (10_state.md R43) -/

/-- The scanner registers are BTNSTEP's and PANSTEP's, the LED registers LEDSTEP's too, MASK BOOT's too. -/
theorem effect_keeps_scanner {i : Instr} (s : State) (hreset : i ≠ .reset)
    (hbtn : ∀ lvl, i ≠ .btnstep lvl) (hpan : ∀ lvl, i ≠ .panstep lvl) :
    (effect i s).row = s.row ∧ (effect i s).col = s.col ∧ (effect i s).hist = s.hist ∧
      (effect i s).pressed = s.pressed ∧
      (i ≠ .ledstep → (effect i s).ledIdx = s.ledIdx ∧ (effect i s).ledPin = s.ledPin) ∧
      (i ≠ .boot → (effect i s).mask = s.mask) := by
  cases i with
  | btnstep lvl => exact absurd rfl (hbtn lvl)
  | panstep lvl => exact absurd rfl (hpan lvl)
  | reset => exact absurd rfl hreset
  | nvwrite mask => simp only [effect]; rw [writeMask_frame]; simp
  | flush =>
    simp only [effect]
    split
    · rw [writeMask_frame]; simp
    · simp
  | tick sample gc gt => simp [effect, tickState, tickFront_eq]
  | nop | quant | ledstep | nvread | rdreg | boot => simp [effect]

/-- The medium is NVWRITE's and FLUSH's, the log registers NVREAD's and BOOT's too. -/
theorem effect_keeps_log {i : Instr} (s : State) (hreset : i ≠ .reset)
    (hwrite : ∀ mask, i ≠ .nvwrite mask) (hflush : i ≠ .flush) :
    (effect i s).nv = s.nv ∧ (effect i s).params = s.params ∧
      (i ≠ .nvread → i ≠ .boot → (effect i s).curIdx = s.curIdx ∧ (effect i s).curSeq = s.curSeq ∧
        (effect i s).curPay = s.curPay ∧ (effect i s).nvValid = s.nvValid) := by
  cases i with
  | nvwrite mask => exact absurd rfl (hwrite mask)
  | flush => exact absurd rfl hflush
  | reset => exact absurd rfl hreset
  | tick sample gc gt => simp [effect, tickState, tickFront_eq]
  | nop | quant | btnstep | ledstep | panstep | nvread | rdreg | boot => simp [effect]

/-- The output, the timers, the filter and the emitted pitch are TICK's, SAVEEL FLUSH's too. -/
theorem effect_keeps_output {i : Instr} (s : State) (hreset : i ≠ .reset)
    (htick : ∀ sample gc gt, i ≠ .tick sample gc gt) :
    (effect i s).dacCode = s.dacCode ∧ (effect i s).gate = s.gate ∧ (effect i s).gateCnt = s.gateCnt ∧
      (effect i s).gateSt = s.gateSt ∧ (effect i s).saveCnt = s.saveCnt ∧ (effect i s).saveSt = s.saveSt ∧
      (effect i s).filtAcc = s.filtAcc ∧ (effect i s).prevAcc = s.prevAcc ∧
      (effect i s).prevEmit = s.prevEmit ∧ (effect i s).emitValid = s.emitValid ∧
      (effect i s).sound = s.sound ∧ (i ≠ .flush → (effect i s).saveEl = s.saveEl) := by
  cases i with
  | tick sample gc gt => exact absurd rfl (htick sample gc gt)
  | reset => exact absurd rfl hreset
  | nvwrite mask => simp only [effect]; rw [writeMask_frame]; simp
  | flush =>
    simp only [effect]
    split
    · rw [writeMask_frame]; simp
    · simp
  | nop | quant | btnstep | ledstep | panstep | nvread | rdreg | boot => simp [effect]

/-- TOUCH is BTNSTEP's, PANSTEP's and TICK's. -/
theorem effect_keeps_touch {i : Instr} (s : State) (hreset : i ≠ .reset) (hbtn : ∀ lvl, i ≠ .btnstep lvl)
    (hpan : ∀ lvl, i ≠ .panstep lvl) (htick : ∀ sample gc gt, i ≠ .tick sample gc gt) :
    (effect i s).touch = s.touch := by
  cases i with
  | btnstep lvl => exact absurd rfl (hbtn lvl)
  | panstep lvl => exact absurd rfl (hpan lvl)
  | tick sample gc gt => exact absurd rfl (htick sample gc gt)
  | reset => exact absurd rfl hreset
  | nvwrite mask => simp only [effect]; rw [writeMask_frame]
  | flush =>
    simp only [effect]
    split
    · rw [writeMask_frame]
    · rfl
  | nop | quant | ledstep | nvread | rdreg | boot => rfl

/-- Settles O53: one lemma for the registers of each unit, over the effect of the event. -/
theorem everyRegisterHasItsOwners : Obligations.EveryRegisterHasItsOwners := by
  intro i s t h hreset
  obtain ⟨r, rfl⟩ := eq_answer_effect_of_exec h
  refine ⟨effect_keeps_scanner s hreset, fun hwrite hflush => ?_, effect_keeps_output s hreset,
    effect_keeps_touch s hreset⟩
  obtain ⟨hnv, hparams, hcache⟩ := effect_keeps_log s hreset hwrite hflush
  exact ⟨hnv, nvByte_congr (congrArg _ hparams) hnv, hcache⟩

/-! ### Packed registers (10_state.md R42) -/

/-- A field put above a value that ends below it adds to the value. -/
theorem toNat_or_fieldAt {x : Word} {k w : Nat} (v : BitVec w) (hx : x.toNat < 2 ^ k) (hfit : k + w ≤ 32) :
    (x ||| fieldAt k v).toNat = x.toNat + 2 ^ k * v.toNat := by
  have hv : v.toNat * 2 ^ k < 2 ^ 32 := by
    calc v.toNat * 2 ^ k < 2 ^ w * 2 ^ k := Nat.mul_lt_mul_of_pos_right v.isLt (by positivity)
      _ = 2 ^ (k + w) := by rw [← Nat.pow_add, Nat.add_comm]
      _ ≤ 2 ^ 32 := Nat.pow_le_pow_right (by decide) hfit
  have hw : v.toNat < 2 ^ 32 :=
    lt_of_lt_of_le v.isLt (Nat.pow_le_pow_right (by decide) (by omega))
  have hfield : (fieldAt k v).toNat = v.toNat <<< k := by
    rw [fieldAt, BitVec.toNat_shiftLeft, BitVec.toNat_setWidth, Nat.mod_eq_of_lt hw, Nat.shiftLeft_eq,
      Nat.mod_eq_of_lt hv]
  rw [BitVec.toNat_or, hfield, Nat.or_comm, ← Nat.shiftLeft_add_eq_or_of_lt hx, Nat.shiftLeft_eq,
    Nat.mul_comm, Nat.add_comm]

theorem toNat_fieldAt_zero {w : Nat} (v : BitVec w) (hfit : w ≤ 32) : (fieldAt 0 v).toNat = v.toNat := by
  rw [fieldAt_zero hfit, BitVec.toNat_ofNat]
  exact Nat.mod_eq_of_lt (lt_of_lt_of_le v.isLt (Nat.pow_le_pow_right (by decide) hfit))

theorem getLsbD_fieldAt {w : Nat} (k : Nat) (v : BitVec w) (i : Nat) :
    (fieldAt k v).getLsbD i = (decide (i < 32) && decide (k ≤ i) && v.getLsbD (i - k)) := by
  simp only [fieldAt, BitVec.getLsbD_shiftLeft, BitVec.getLsbD_setWidth]
  grind

/-- RDREG of a listed number answers the register and does nothing else (45_system_commands.md R201). -/
theorem exec_rdreg_of_readRegister {s : State} {reg : BitVec 8} {v : Word}
    (h : readRegister s reg = some v) : exec (.rdreg reg) s = .next { s with rsp := some v } := by
  simp only [exec, execRdreg, h]
  rfl

/-- Settles O50: the listed numbers in their order, each a register of one field from bit 0, the states of the
two timers by their codes. -/
theorem rdregReadsTheRegisters : Obligations.RdregReadsTheRegisters := by
  intro s n v h
  apply exec_rdreg_of_readRegister
  simp only [List.mem_cons, Prod.mk.injEq, List.not_mem_nil, or_false] at h
  rcases h with ⟨rfl, rfl⟩ | ⟨rfl, rfl⟩ | ⟨rfl, rfl⟩ | ⟨rfl, rfl⟩ | ⟨rfl, rfl⟩ | ⟨rfl, rfl⟩ | ⟨rfl, rfl⟩ |
    ⟨rfl, rfl⟩ | ⟨rfl, rfl⟩ | ⟨rfl, rfl⟩ | ⟨rfl, rfl⟩
  iterate 8 · simp [readRegister, fieldAt_zero]
  · change some (fieldAt 0 (timerCode s.gateSt)) = _
    cases s.gateSt <;> rfl
  · simp [readRegister]
  · change some (fieldAt 0 (timerCode s.saveSt)) = _
    cases s.saveSt <;> rfl

/-- SCANPOS as a number. -/
theorem scanposWord_eq (s : State) :
    scanposWord s = BitVec.ofNat 32 (s.col.val + 4 * s.row.val + 16 * s.ledIdx.val) := by
  unfold scanposWord
  generalize s.col = col, s.row = row, s.ledIdx = k
  revert col row k
  decide

/-- FLAGS as a number. -/
theorem flagsWord_eq (s : State) :
    flagsWord s = BitVec.ofNat 32 (s.touch.toNat + 2 * s.saveEl.toNat + 4 * s.gate.toNat +
      8 * s.nvValid.toNat + 16 * s.emitValid.toNat) := by
  unfold flagsWord
  generalize s.touch = a, s.saveEl = b, s.gate = c, s.nvValid = d, s.emitValid = e
  revert a b c d e
  decide

/-- NVCUR as a number: three fields, each above the one before. -/
theorem nvcurWord_eq (s : State) :
    nvcurWord s = BitVec.ofNat 32 (s.curIdx.toNat + 256 * s.curSeq.toNat + 65536 * s.curPay.toNat) := by
  have hidx := s.curIdx.isLt
  have hseq := s.curSeq.isLt
  have hpay := s.curPay.isLt
  have h0 : (fieldAt 0 s.curIdx).toNat = s.curIdx.toNat := toNat_fieldAt_zero _ (by decide)
  have h1 : (fieldAt 0 s.curIdx ||| fieldAt 8 s.curSeq).toNat = s.curIdx.toNat + 2 ^ 8 * s.curSeq.toNat := by
    rw [toNat_or_fieldAt _ (by omega) (by decide), h0]
  apply BitVec.eq_of_toNat_eq
  rw [nvcurWord, toNat_or_fieldAt _ (by omega) (by decide), h1, BitVec.toNat_ofNat]
  omega

theorem getLsbD_pinCode (pin : Pin) :
    (pinCode pin).getLsbD 1 = decide (pin ≠ .z) ∧ (pinCode pin).getLsbD 0 = decide (pin = .h) := by
  cases pin <;> decide

/-- LEDPINS: two bits for each pin, and none above the last. -/
theorem ledpinsWord_eq (s : State) : ledpinsWord s =
    (pinCode s.ledPin[5] ++ pinCode s.ledPin[4] ++ pinCode s.ledPin[3] ++ pinCode s.ledPin[2] ++
      pinCode s.ledPin[1] ++ pinCode s.ledPin[0]).setWidth 32 := by
  unfold ledpinsWord
  apply BitVec.eq_of_getLsbD_eq
  intro i hi
  simp only [BitVec.getLsbD_or, getLsbD_fieldAt, BitVec.getLsbD_setWidth, BitVec.getLsbD_append]
  interval_cases i <;> simp

theorem ledpinsWord_lt (s : State) : (ledpinsWord s).toNat < 2 ^ 12 := by
  rw [ledpinsWord_eq, BitVec.toNat_setWidth]
  exact lt_of_le_of_lt (Nat.mod_le _ _) (BitVec.isLt _)

/-- Bit `j` of pin `p` in LEDPINS is bit `j` of the pin's code. -/
theorem getLsbD_ledpinsWord (s : State) (p : Fin 6) (j : Fin 2) :
    (ledpinsWord s).getLsbD (2 * p.val + j.val) = (pinCode s.ledPin[p]).getLsbD j.val := by
  unfold ledpinsWord
  simp only [BitVec.getLsbD_or, getLsbD_fieldAt]
  fin_cases p <;> fin_cases j <;> simp

/-- The numbers from 0x10 on are the histories. -/
theorem readRegister_hist (s : State) (b : Fin 12) :
    readRegister s (BitVec.ofNat 8 (0x10 + b.val)) = some (BitVec.ofNat 32 (s.hist[b]).toNat) := by
  have hnum : (BitVec.ofNat 8 (0x10 + b.val)).toNat = b.val + 16 := by
    rw [BitVec.toNat_ofNat]; omega
  simp [readRegister, hnum, fieldAt_zero]

/-- Settles O51: each packed register as the lemma about its word says. -/
theorem rdregReadsThePackedRegisters : Obligations.RdregReadsThePackedRegisters := by
  intro s
  refine ⟨?_, ?_, ⟨ledpinsWord s, ?_, ledpinsWord_lt s, fun p => ⟨?_, ?_⟩⟩, ?_, fun b => ?_⟩
  · exact exec_rdreg_of_readRegister (congrArg some (scanposWord_eq s))
  · exact exec_rdreg_of_readRegister (congrArg some (flagsWord_eq s))
  · exact exec_rdreg_of_readRegister rfl
  · exact (getLsbD_ledpinsWord s p 1).trans (getLsbD_pinCode s.ledPin[p]).1
  · exact (getLsbD_ledpinsWord s p 0).trans (getLsbD_pinCode s.ledPin[p]).2
  · exact exec_rdreg_of_readRegister (congrArg some (nvcurWord_eq s))
  · exact exec_rdreg_of_readRegister (readRegister_hist s b)

/-! ### Reset (10_state.md R45) -/

/-- Settles O10: RESET is `clearVolatile` with the answer 0, and the medium is kept. -/
theorem resetEventGivesTheResetValues : Obligations.ResetEventGivesTheResetValues := by
  intro s
  have hmedium : SameMedium s (answer 0#32 (clearVolatile s)) := nvByte_congr rfl rfl
  refine ⟨answer 0#32 (clearVolatile s), rfl, ?_⟩
  simp [hmedium]

/-! ### The bounds a tick keeps (10_state.md R29 to R32) -/

/-- One filter step of a value up to `m * d` with a sample up to `m` stays up to `m * d`. -/
theorem filter_step_le {acc x m d : Nat} (hacc : acc ≤ m * d) (hx : x ≤ m) (hd : 0 < d) :
    acc - acc / d + x ≤ m * d := by
  have hq : acc / d ≤ m := Nat.div_le_of_le_mul (by rwa [Nat.mul_comm])
  rcases Nat.eq_or_lt_of_le hq with hq | hq
  · have := Nat.div_le_self acc d
    omega
  · have hle : (acc / d + 1) * (d - 1) ≤ m * (d - 1) := Nat.mul_le_mul_right _ hq
    have hmod := Nat.div_add_mod acc d
    have hlt := Nat.mod_lt acc hd
    obtain ⟨e, rfl⟩ : ∃ e, d = e + 1 := ⟨d - 1, by omega⟩
    simp only [Nat.add_sub_cancel, Nat.mul_add, Nat.add_mul, Nat.mul_one, Nat.one_mul] at *
    rw [Nat.mul_comm (acc / (e + 1)) e] at hle
    omega

theorem filterNext_le {p : Config.Params} {acc : BitVec 32} {x : Sample}
    (hacc : acc.toNat ≤ adcMax p * 2 ^ p.filterK) (hx : x.toNat ≤ adcMax p) :
    (filterNext p.filterK acc x).toNat ≤ adcMax p * 2 ^ p.filterK := by
  rw [filterNext, BitVec.toNat_ofNat]
  exact (Nat.mod_le _ _).trans (filter_step_le hacc hx (by positivity))

/-- The filtered sample is a sample code. -/
theorem filtered_le {s : State} (h : s.filtAcc.toNat ≤ adcMax s.params * 2 ^ s.params.filterK) :
    filtered s ≤ adcMax s.params :=
  Nat.div_le_of_le_mul (by rwa [Nat.mul_comm])

/-- An entry of Pitch Table 1 is a signed 16-bit value. -/
theorem pt1_bounds (p : Config.Params) (code : Nat) : -2 ^ 15 ≤ pt1 p code ∧ pt1 p code < 2 ^ 15 := by
  unfold pt1
  split
  all_goals exact ⟨BitVec.le_toInt _, BitVec.toInt_lt⟩

/-- A pitch fits its register, and so does its output code (41_quantizer.md R110, R111). -/
theorem quantize_bounds {p : Config.Params} {mask : NoteMask} {code : Nat} {pitch : Int}
    (h : quantize p mask code = some pitch) : -2 ^ 14 ≤ pitch ∧ pitch < 2 ^ 14 := by
  obtain ⟨d, -, hd, hlow, hhigh, -⟩ := quantizeQ8_eq_some h
  have := pt1_bounds p code
  omega

theorem toInt_ofInt_of_fits {x : Int} (hlow : -2 ^ 15 ≤ x) (hhigh : x < 2 ^ 15) :
    (BitVec.ofInt 16 x).toInt = x :=
  BitVec.toInt_ofInt_eq_self (by decide) hlow hhigh

/-- SOUND holds the note of a pitch. -/
theorem toNat_ofInt_noteOf (p : Int) : ((BitVec.ofInt 4 (noteOf p)).toNat : Int) = p % 12 := by
  rw [BitVec.toNat_ofInt, noteOf]
  omega

/-! ### The invariants at a power-on (10_state.md R44, R45) -/

theorem inv_powerOn {p : Config.Params} {nv : Memory} (stimuli : List Stimulus) (hp : Legal p)
    (hnv : Memory.wf p.nvErased nv) : Inv { State.powerOn p nv with inbox := stimuli } where
  legal := hp
  window := fun b => by simp
  leds := .inl fun i => by simp
  filter := by simp
  accepted := by simp
  silent := by simp
  sounding := by simp
  gateRuns := by simp
  gateTimer := by simp [TimerOk]
  saveTimer := by simp [TimerOk]
  elapsed := by simp
  cache := by simp
  code := by simp
  medium := hnv

/-- Settles O54: State.reset is the power-on of T0, which is legal, on the empty list, which is canonical. -/
theorem invariantsHoldAtReset : Obligations.InvariantsHoldAtReset :=
  ⟨inv_powerOn [] legal_t0 (resetWith_wf Config.t0), fun _ _ stimuli => inv_powerOn stimuli⟩

/-! ### The invariants over the parts of a step -/

section Steps

variable {s : State}

theorem inv_answer (h : Inv s) (r : Word) : Inv (answer r s) := { h with }

theorem inv_takeStimulus (h : Inv s) (rest : List Stimulus) : Inv { s with inbox := rest } := { h with }

theorem inv_setMask (h : Inv s) (mask : NoteMask) : Inv { s with mask := mask } := { h with }

theorem inv_clearVolatile (h : Inv s) : Inv (clearVolatile s) := inv_powerOn s.inbox h.legal h.medium

theorem inv_tornWrite (h : Inv s) (mask : NoteMask) (j : Fin 4) (g : Option Byte) :
    Inv (tornWrite mask j g s) := by
  rw [tornWrite_frame]
  exact inv_powerOn s.inbox h.legal (tornWrite_wf h.medium mask j g)

theorem inv_powerFailInPlaceOf (h : Inv s) (cmd : Word) (j : Fin 4) (g : Option Byte) :
    Inv (powerFailInPlaceOf cmd j g s) := by
  rcases powerFailInPlaceOf_cases cmd j g s with ⟨i, mask, -, -, heq⟩ | ⟨-, heq⟩ <;> rw [heq]
  · exact inv_tornWrite h mask j g
  · exact inv_clearVolatile h

/-! The log. -/

theorem inv_recover (h : Inv s) : Inv (recover s) :=
  { h with cache := fun _ => by rw [recover_curIdx_toNat]; exact ⟨rfl, rfl⟩ }

/-- A change of the medium and the log registers alone keeps the invariants, if the new cache mirrors its slot. -/
theorem inv_of_log_frame {t : State} {idx : BitVec 7} {seq : BitVec 8} {pay : NoteMask} (h : Inv s)
    (hframe : t = { s with nv := t.nv, curIdx := idx, curSeq := seq, curPay := pay })
    (hpay : pay = slotPayload t idx.toNat) (hseq : seq = slotSeq t idx.toNat)
    (hmedium : Memory.wf s.params.nvErased t.nv) : Inv t := by
  rw [hframe] at hpay hseq ⊢
  exact { h with cache := fun _ => ⟨hpay, hseq⟩, medium := hmedium }

theorem inv_appendSlot (h : Inv s) (mask : NoteMask) : Inv (appendSlot mask s) :=
  inv_of_log_frame h (appendSlot_frame mask s) (slotPayload_appendSlot mask s).symm
    (by rw [slotSeq_appendSlot, if_pos rfl]) (appendSlot_wf h.medium mask)

theorem inv_writeMask (h : Inv s) (mask : NoteMask) : Inv (writeMask mask s) := by
  unfold writeMask
  split
  · exact inv_appendSlot h mask
  · exact h

theorem inv_clearSaveEl (h : Inv s) : Inv { s with saveEl := false } :=
  { h with elapsed := fun hel => nomatch hel }

/-! The panel. -/

/-- The driven pins light one LED of the table or none (42_panel_scanner.md R134). -/
theorem oneLed_drivePins {p : Config.Params} (h : Legal p) (k : Fin 12) (colour : BitVec 2) :
    OneLed p (drivePins p.ledPins[k] colour) := by
  have hget := fun i => drivePins_get (p.ledPins[k]).1 (p.ledPins[k]).2 i colour (h.pinsDiffer k)
  by_cases hsound : colour = 1#2
  · exact .inr ⟨k, .h, .l, .inl ⟨rfl, rfl⟩, fun i => (hget i).trans (if_pos hsound)⟩
  · by_cases henabled : colour = 2#2
    · exact .inr ⟨k, .l, .h, .inr ⟨rfl, rfl⟩, fun i =>
        (hget i).trans ((if_neg hsound).trans (if_pos henabled))⟩
    · exact .inl fun i => (hget i).trans ((if_neg hsound).trans (if_neg henabled))

theorem inv_blankPins (h : Inv s) : Inv (blankPins s) := { h with leds := .inl fun i => by simp }

theorem inv_ledShow (h : Inv s) : Inv (ledShow s) :=
  { h with leds := oneLed_drivePins h.legal s.ledIdx (ledColour s s.ledIdx) }

theorem inv_buttonStep (h : Inv s) (lvl : Bool) : Inv (buttonStep lvl s) :=
  { h with
    window := fun b => by
      by_cases hb : b = buttonIndex s.row s.col
      · subst hb
        simp [buttonDebounce, shiftHistory_toNat h.legal.window.2, Nat.mod_lt]
      · have := h.window b
        have hne : (buttonIndex s.row s.col).val ≠ b.val := fun hc => hb (Fin.ext hc.symm)
        simpa [Vector.getElem_set_ne _ _ hne] using this }

/-! The tick (44_sample_pipeline.md R171 to R183). -/

theorem inv_tickFilter (h : Inv s) {x : Sample} (hx : x.toNat ≤ adcMax s.params) : Inv (tickFilter x s) :=
  { h with filter := filterNext_le h.filter hx }

theorem inv_tickPoll (h : Inv s) : Inv (tickPoll s) := by
  unfold tickPoll
  split
  · exact { h with
      saveTimer := ⟨fun _ => h.legal.autosaveTicks, fun _ => rfl⟩
      elapsed := fun hel => nomatch hel }
  · exact h

theorem inv_tickSilence (h : Inv s) : Inv (tickSilence s) :=
  { h with
    silent := fun _ => ⟨rfl, rfl⟩
    sounding := fun hvalid => nomatch hvalid
    code := fun hvalid => nomatch hvalid }

theorem inv_tickAccept (h : Inv s) {f : Nat} (hf : f ≤ adcMax s.params) : Inv (tickAccept f s) := by
  unfold tickAccept
  split
  · exact h
  · exact { h with accepted := (Nat.mod_le _ _).trans hf }

theorem inv_emitPitch (h : Inv s) {p : Int} (hlow : -2 ^ 14 ≤ p) (hhigh : p < 2 ^ 14) :
    Inv (emitPitch p s) := by
  have hpitch : (emitPitch p s).prevEmit.toInt = p := toInt_ofInt_of_fits (by omega) (by omega)
  have hcode : (BitVec.ofInt 16 (2 * p)).toInt = 2 * p := toInt_ofInt_of_fits (by omega) (by omega)
  exact { h with
    silent := fun hvalid => nomatch hvalid
    sounding := fun _ => by rw [hpitch]; exact toNat_ofInt_noteOf p
    gateRuns := ⟨fun _ => rfl, fun _ => rfl⟩
    gateTimer := ⟨fun _ => h.legal.gateTicks, fun _ => rfl⟩
    code := fun _ => by rw [hpitch]; exact hcode }

theorem inv_tickQuantize (h : Inv s) {f : Nat} (hf : f ≤ adcMax s.params) : Inv (tickQuantize f s).1 := by
  have haccept := inv_tickAccept h hf
  unfold tickQuantize
  split
  · rename_i p hp
    obtain ⟨hlow, hhigh⟩ := quantize_bounds hp
    split
    · exact inv_emitPitch haccept hlow hhigh
    · exact haccept
  · exact haccept

theorem inv_tickPitch (h : Inv s) {f : Nat} (hf : f ≤ adcMax s.params) (gc gt : Bool) :
    Inv (tickPitch f gc gt s).1 := by
  rcases tickPitch_cases f gc gt s with ⟨-, heq⟩ | ⟨-, -, heq⟩ | ⟨-, -, heq⟩ <;> rw [heq]
  · exact inv_tickSilence h
  · exact h
  · exact inv_tickQuantize h hf

/-- The gate falls with the expiry of its timer, so it is high exactly while the timer runs. -/
theorem inv_tickGate (h : Inv s) : Inv (tickGate s) :=
  { h with
    gateTimer := timerOk_tickTimer h.gateTimer
    gateRuns := by
      have hruns := h.gateRuns
      rw [tickGate_gate, tickGate_gateSt]
      rcases tickTimer_cases s.gateCnt s.gateSt with ⟨hst, -, heq⟩ | ⟨hst, -, heq⟩ | ⟨hst, heq⟩ <;>
        rw [heq] <;> simp [hruns, hst] }

/-- SAVEEL is set by the expiry of a timer, which then does not run, and a timer that does not run stays so. -/
theorem inv_tickSave (h : Inv s) : Inv (tickSave s) :=
  { h with
    saveTimer := timerOk_tickTimer h.saveTimer
    elapsed := by
      have hel := h.elapsed
      rw [tickSave_saveEl, tickSave_saveSt]
      rcases tickTimer_cases s.saveCnt s.saveSt with ⟨hst, -, heq⟩ | ⟨hst, -, heq⟩ | ⟨hst, heq⟩ <;> rw [heq]
      · simpa [hst] using hel
      · simp
      · simp }

theorem inv_tickState (h : Inv s) {sample : Sample} (hs : sample.toNat ≤ adcMax s.params) (gc gt : Bool) :
    Inv (tickState sample gc gt s) := by
  have hpolled : Inv (polled sample s) := inv_tickPoll (inv_tickFilter h hs)
  exact inv_tickSave (inv_tickGate (inv_tickPitch hpolled (filtered_le hpolled.filter) gc gt))

/-! ### The invariants over a step -/

/-- Every completed event keeps the invariants: its effect is made of the parts above. -/
theorem inv_exec {t : State} {i : Instr} (h : Inv s) (hexec : exec i s = .next t) : Inv t := by
  obtain ⟨r, rfl⟩ := eq_answer_effect_of_exec hexec
  refine inv_answer ?_ r
  cases i with
  | nop | quant | rdreg => exact h
  | btnstep lvl => exact inv_buttonStep h lvl
  | ledstep => exact inv_ledShow h
  | panstep lvl => exact inv_ledShow (inv_buttonStep (inv_blankPins h) lvl)
  | nvread => exact inv_recover h
  | nvwrite mask => exact inv_writeMask h mask
  | tick sample gc gt => exact inv_tickState h (execTick_next_iff.1 hexec).1 gc gt
  | flush =>
    simp only [effect]
    split
    · exact inv_clearSaveEl (inv_writeMask h s.mask)
    · exact h
  | boot => exact inv_setMask (inv_recover h) _
  | reset => exact inv_clearVolatile h

end Steps

/-- Settles O55: by the stimulus the step takes; an event's case is `inv_exec`, every other is a power-on. -/
theorem stepsKeepTheInvariants : Obligations.StepsKeepTheInvariants := by
  intro s t h hstep
  rcases step_cases s with ⟨-, heq⟩ | ⟨x, rest, -, ⟨cmd, i, -, -, heq⟩ | ⟨cmd, e, -, -, heq⟩ | ⟨-, heq⟩ |
    ⟨cmd, j, g, -, heq⟩⟩ <;> rw [heq] at hstep
  · cases hstep; exact h
  · exact inv_exec (inv_takeStimulus h rest) hstep
  · cases hstep
  · cases hstep; exact inv_clearVolatile (inv_takeStimulus h rest)
  · cases hstep; exact inv_powerFailInPlaceOf (inv_takeStimulus h rest) cmd j g

end Sys2Proof.Proofs

/-! PROOFS. The encoding (spec/30_encoding.md): the word of an event by its fields (R80 to R82), the rows of the
opcode table, what is refused (R84), and the answers (R80, R86). -/

namespace Sys2Proof.Proofs

open Sys2Proof.Machine Sys2Proof.Safety

/-! ### The fields of a word, as numbers (30_encoding.md R80, R81) -/

theorem opField_toNat (w : Word) : (opField w).toNat = w.toNat / 2 ^ 28 := by
  have := w.isLt
  simp only [opField, BitVec.extractLsb'_toNat, Nat.shiftRight_eq_div_pow]
  omega

theorem sampleField_eq_iff (w : Word) (sample : Sample) :
    sampleField w = sample ↔ w.toNat / 2 ^ 12 % 2 ^ 16 = sample.toNat := by
  rw [← BitVec.toNat_inj, sampleField, BitVec.extractLsb'_toNat, Nat.shiftRight_eq_div_pow]

theorem maskField_eq_iff (w : Word) (mask : NoteMask) : maskField w = mask ↔ w.toNat % 2 ^ 12 = mask.toNat := by
  rw [← BitVec.toNat_inj, maskField, BitVec.extractLsb'_toNat, Nat.shiftRight_zero]

theorem regField_eq_iff (w : Word) (reg : BitVec 8) : regField w = reg ↔ w.toNat % 2 ^ 8 = reg.toNat := by
  rw [← BitVec.toNat_inj, regField, BitVec.extractLsb'_toNat, Nat.shiftRight_zero]

theorem decide_mod_two_eq_iff (n : Nat) (b : Bool) : decide (n % 2 = 1) = b ↔ n % 2 = b.toNat := by
  cases b <;> simp

theorem bit0_eq_iff (w : Word) (b : Bool) : bit0 w = b ↔ w.toNat % 2 = b.toNat := by
  rw [bit0, BitVec.getLsbD, Nat.testBit_zero, decide_mod_two_eq_iff]

theorem bit1_eq_iff (w : Word) (b : Bool) : bit1 w = b ↔ w.toNat / 2 % 2 = b.toNat := by
  rw [bit1, BitVec.getLsbD, Nat.testBit_succ, Nat.testBit_zero, decide_mod_two_eq_iff]

/-- The place of a format's reserved field: its lowest bit, and its width. -/
def reservedPlace : Format → Nat × Nat
  | .z => (0, 28)
  | .l => (1, 27)
  | .m => (12, 16)
  | .sm => (28, 0)
  | .st => (2, 10)
  | .r => (8, 20)

/-- A mask of `n` ones from place `k` on takes the field of `n` bits at that place. -/
theorem and_ones_at_place (x n k : Nat) : x &&& (2 ^ n - 1) * 2 ^ k = x / 2 ^ k % 2 ^ n * 2 ^ k := by
  apply Nat.eq_of_testBit_eq
  intro i
  simp only [Nat.testBit_and, Nat.testBit_mul_two_pow, Nat.testBit_mod_two_pow, Nat.testBit_div_two_pow,
    Nat.testBit_two_pow_sub_one]
  grind

theorem reserved_toNat (f : Format) :
    f.reserved.toNat = (2 ^ (reservedPlace f).2 - 1) * 2 ^ (reservedPlace f).1 := by
  cases f <;> rfl

/-- A reserved field is 0 (30_encoding.md R84 b), in numbers. -/
theorem and_reserved_eq_zero_iff (f : Format) (w : Word) :
    w &&& f.reserved = 0#32 ↔ w.toNat / 2 ^ (reservedPlace f).1 % 2 ^ (reservedPlace f).2 = 0 := by
  rw [← BitVec.toNat_inj, BitVec.toNat_and, reserved_toNat, and_ones_at_place, BitVec.toNat_ofNat]
  simp

/-! ### An event by its opcode, its format and its operands (30_encoding.md R81, R82) -/

/-- The opcode of an event (30_encoding.md R82). -/
def opcodeOf : Instr → BitVec 4
  | .nop => 0x0#4
  | .quant _ _ => 0x1#4
  | .btnstep _ => 0x2#4
  | .ledstep => 0x3#4
  | .panstep _ => 0x4#4
  | .nvread => 0x8#4
  | .nvwrite _ => 0x9#4
  | .tick _ _ _ => 0xA#4
  | .flush => 0xB#4
  | .rdreg _ => 0xC#4
  | .boot => 0xE#4
  | .reset => 0xF#4

/-- The format of an event (30_encoding.md R82). -/
def formatOf : Instr → Format
  | .nop | .ledstep | .nvread | .flush | .boot | .reset => .z
  | .btnstep _ | .panstep _ => .l
  | .nvwrite _ => .m
  | .quant _ _ => .sm
  | .tick _ _ _ => .st
  | .rdreg _ => .r

/-- The operand fields of the word `w` hold the operands of an event (30_encoding.md R81). -/
def HoldsOperands (w : Word) : Instr → Prop
  | .nop | .ledstep | .nvread | .flush | .boot | .reset => True
  | .btnstep lvl | .panstep lvl => bit0 w = lvl
  | .nvwrite mask => maskField w = mask
  | .quant sample mask => sampleField w = sample ∧ maskField w = mask
  | .tick sample gc gt => sampleField w = sample ∧ bit1 w = gc ∧ bit0 w = gt
  | .rdreg reg => regField w = reg

/-- `CMD[27:0]` of an event, as a number. -/
def operandNumber : Instr → Nat
  | .nop | .ledstep | .nvread | .flush | .boot | .reset => 0
  | .btnstep lvl | .panstep lvl => lvl.toNat
  | .nvwrite mask => mask.toNat
  | .quant sample mask => 2 ^ 12 * sample.toNat + mask.toNat
  | .tick sample gc gt => 2 ^ 12 * sample.toNat + (2 * gc.toNat + gt.toNat)
  | .rdreg reg => reg.toNat

/-! ### The decoder, said once -/

theorem withFormat_eq_ok_iff {f : Format} {w : Word} {i j : Instr} :
    withFormat f w j = .ok i ↔ w &&& f.reserved = 0#32 ∧ j = i := by
  unfold withFormat
  split <;> simp [*]

/-- A word decodes to an event exactly when it has the opcode, a reserved field of 0, and the operands. -/
theorem decode_eq_ok_iff_fields {w : Word} {i : Instr} :
    decode w = .ok i ↔
      opField w = opcodeOf i ∧ w &&& (formatOf i).reserved = 0#32 ∧ HoldsOperands w i := by
  constructor
  · intro h
    unfold decode at h
    split at h
    case h_13 => cases h
    all_goals
      obtain ⟨hreserved, rfl⟩ := withFormat_eq_ok_iff.1 h
      exact ⟨BitVec.eq_of_toNat_eq ‹_›, hreserved, by simp [HoldsOperands]⟩
  · rintro ⟨hop, hreserved, hoperands⟩
    cases i
    all_goals
      simp only [HoldsOperands, opcodeOf, formatOf] at hoperands hop hreserved
      simpa only [decode, hop, BitVec.reduceToNat, withFormat_eq_ok_iff, hoperands, and_true] using hreserved

/-! ### The encoder, said once -/

/-- A field put above a value that ends below it adds to the value. -/
theorem toNat_fieldAt_or {x : Word} {k n : Nat} (v : BitVec n) (hx : x.toNat < 2 ^ k) (hfit : k + n ≤ 32) :
    (fieldAt k v ||| x).toNat = 2 ^ k * v.toNat + x.toNat := by
  rw [BitVec.or_comm, toNat_or_fieldAt v hx hfit, Nat.add_comm]

/-- A field put above a value of no more bits than lie below it adds to the value. -/
theorem toNat_fieldAt_or_setWidth {k m n : Nat} (v : BitVec n) (x : BitVec m) (hx : m ≤ k)
    (hfit : k + n ≤ 32) :
    (fieldAt k v ||| x.setWidth 32).toNat = 2 ^ k * v.toNat + x.toNat := by
  have hval : (x.setWidth 32 : Word).toNat = x.toNat := BitVec.toNat_setWidth_of_le (by omega)
  have hlt : x.toNat < 2 ^ k := lt_of_lt_of_le x.isLt (Nat.pow_le_pow_right (by decide) hx)
  rw [toNat_fieldAt_or v (by rwa [hval]) hfit, hval]

/-- The word of an event as a number: the opcode above the operands. -/
theorem encode_toNat (i : Instr) : (encode i).toNat = 2 ^ 28 * (opcodeOf i).toNat + operandNumber i := by
  cases i with
  | quant sample mask =>
    have hlow := toNat_fieldAt_or_setWidth (k := 12) sample mask (by decide) (by decide)
    rw [encode, BitVec.or_assoc]
    change (fieldAt 28 0x1#4 ||| (fieldAt 12 sample ||| mask.setWidth 32)).toNat = _
    rw [toNat_fieldAt_or _ (by omega) (by decide), hlow]
    rfl
  | nvwrite mask => exact toNat_fieldAt_or_setWidth (k := 28) 0x9#4 mask (by decide) (by decide)
  | tick sample gc gt =>
    have hbits : (fieldAt 1 (BitVec.ofBool gc) ||| (BitVec.ofBool gt).setWidth 32).toNat =
        2 ^ 1 * gc.toNat + gt.toNat := by
      rw [toNat_fieldAt_or_setWidth _ _ (by decide) (by decide), BitVec.toNat_ofBool, BitVec.toNat_ofBool]
    have := gc.toNat_lt
    have := gt.toNat_lt
    have hlow := toNat_fieldAt_or (k := 12) sample (lt_of_eq_of_lt hbits (by omega)) (by decide)
    rw [encode, BitVec.or_assoc, BitVec.or_assoc]
    change (fieldAt 28 0xA#4 ||| (fieldAt 12 sample |||
      (fieldAt 1 (BitVec.ofBool gc) ||| (BitVec.ofBool gt).setWidth 32))).toNat = _
    rw [toNat_fieldAt_or _ (by omega) (by decide), hlow, hbits]
    rfl
  | rdreg reg => exact toNat_fieldAt_or_setWidth (k := 28) 0xC#4 reg (by decide) (by decide)
  | btnstep lvl | panstep lvl => cases lvl <;> rfl
  | nop | ledstep | nvread | flush | boot | reset => rfl

/-- The three conditions of the decoder fix every bit of the word. -/
theorem fields_iff_toNat (w : Word) (i : Instr) :
    (opField w = opcodeOf i ∧ w &&& (formatOf i).reserved = 0#32 ∧ HoldsOperands w i) ↔
      w.toNat = 2 ^ 28 * (opcodeOf i).toNat + operandNumber i := by
  have := w.isLt
  rw [← BitVec.toNat_inj, opField_toNat, and_reserved_eq_zero_iff]
  cases i with
  | quant sample mask =>
    simp only [HoldsOperands, sampleField_eq_iff, maskField_eq_iff, opcodeOf, formatOf, reservedPlace,
      operandNumber]
    omega
  | nvwrite mask =>
    simp only [HoldsOperands, maskField_eq_iff, opcodeOf, formatOf, reservedPlace, operandNumber]
    omega
  | tick sample gc gt =>
    have := gc.toNat_lt
    have := gt.toNat_lt
    simp only [HoldsOperands, sampleField_eq_iff, bit1_eq_iff, bit0_eq_iff, opcodeOf, formatOf, reservedPlace,
      operandNumber]
    omega
  | rdreg reg =>
    simp only [HoldsOperands, regField_eq_iff, opcodeOf, formatOf, reservedPlace, operandNumber]
    omega
  | btnstep lvl | panstep lvl =>
    have := lvl.toNat_lt
    simp only [HoldsOperands, bit0_eq_iff, opcodeOf, formatOf, reservedPlace, operandNumber]
    omega
  | nop | ledstep | nvread | flush | boot | reset =>
    simp only [HoldsOperands, opcodeOf, formatOf, reservedPlace, operandNumber, and_true]
    omega

/-- The decoder accepts a word for an event exactly when it is the event's word. -/
theorem decode_eq_ok_iff {w : Word} {i : Instr} : decode w = .ok i ↔ encode i = w := by
  rw [decode_eq_ok_iff_fields, fields_iff_toNat, ← BitVec.toNat_inj, encode_toNat, eq_comm]

/-- Settles O1: decoding and encoding are two ways to say that a word is the event's. -/
theorem decodeEncodeAgree : Obligations.DecodeEncodeAgree :=
  ⟨fun _ => decode_eq_ok_iff.2 rfl, fun _ _ => decode_eq_ok_iff.1⟩

/-! ### The rows of the opcode table (spec/opcode_table.json) -/

/-- The row of an event: its opcode and a reserved field of 0 are asked, its operands are free. -/
def rowOf (i : Instr) : OpcodeRow :=
  ⟨i.mnemonic, fieldAt 28 (opcodeOf i), 0xF0000000#32 ||| (formatOf i).reserved⟩

/-- The table, row by row, as the rows of the events in the order of the table. -/
theorem opcodeTable_eq : opcodeTable =
    [rowOf .nop, rowOf (.quant 0#16 0#12), rowOf (.btnstep false), rowOf .ledstep, rowOf (.panstep false),
      rowOf .nvread, rowOf (.nvwrite 0#12), rowOf (.tick 0#16 false false), rowOf .flush, rowOf (.rdreg 0#8),
      rowOf .boot, rowOf .reset] := by decide

theorem rowOf_mem_opcodeTable (i : Instr) : rowOf i ∈ opcodeTable := by
  rw [opcodeTable_eq]
  cases i <;> simp [rowOf, Instr.mnemonic, opcodeOf, formatOf]

/-- Every row is the row of an event, whose operands are those that a given word holds. -/
theorem exists_event_of_row (w : Word) {r : OpcodeRow} (h : r ∈ opcodeTable) :
    ∃ i, rowOf i = r ∧ HoldsOperands w i := by
  simp only [opcodeTable_eq, List.mem_cons, List.not_mem_nil, or_false] at h
  rcases h with rfl | rfl | rfl | rfl | rfl | rfl | rfl | rfl | rfl | rfl | rfl | rfl
  · exact ⟨.nop, rfl, trivial⟩
  · exact ⟨.quant (sampleField w) (maskField w), rfl, rfl, rfl⟩
  · exact ⟨.btnstep (bit0 w), rfl, rfl⟩
  · exact ⟨.ledstep, rfl, trivial⟩
  · exact ⟨.panstep (bit0 w), rfl, rfl⟩
  · exact ⟨.nvread, rfl, trivial⟩
  · exact ⟨.nvwrite (maskField w), rfl, rfl⟩
  · exact ⟨.tick (sampleField w) (bit1 w) (bit0 w), rfl, rfl, rfl, rfl⟩
  · exact ⟨.flush, rfl, trivial⟩
  · exact ⟨.rdreg (regField w), rfl, rfl⟩
  · exact ⟨.boot, rfl, trivial⟩
  · exact ⟨.reset, rfl, trivial⟩

theorem toNat_fieldAt_opcode (op : BitVec 4) : (fieldAt 28 op).toNat = 2 ^ 28 * op.toNat := by
  simpa using toNat_fieldAt_or_setWidth (k := 28) op 0#0 (by decide) (by decide)

/-- The mask of the opcode takes `CMD[31:28]` as it stands. -/
theorem and_opcodeMask (w : Word) : w &&& 0xF0000000#32 = fieldAt 28 (opField w) := by
  have := w.isLt
  apply BitVec.eq_of_toNat_eq
  rw [toNat_fieldAt_opcode, opField_toNat, BitVec.toNat_and]
  exact (and_ones_at_place w.toNat 4 28).trans (by omega)

theorem and_reserved_lt (w : Word) (f : Format) : (w &&& f.reserved).toNat < 2 ^ 28 := by
  rw [BitVec.toNat_and]
  exact lt_of_le_of_lt Nat.and_le_right (by cases f <;> decide)

/-- A word has the pattern of an event's row under the row's mask exactly when it has the opcode and a reserved
field of 0. -/
theorem and_rowMask_eq_iff (w : Word) (i : Instr) :
    w &&& (rowOf i).mask = (rowOf i).pattern ↔
      opField w = opcodeOf i ∧ w &&& (formatOf i).reserved = 0#32 := by
  have hlt := and_reserved_lt w (formatOf i)
  simp only [rowOf, BitVec.and_or_distrib_left, and_opcodeMask, ← BitVec.toNat_inj, toNat_fieldAt_opcode,
    toNat_fieldAt_or _ hlt (by decide : 28 + 4 ≤ 32), BitVec.toNat_ofNat]
  omega

/-- A word decodes to an event exactly when it matches the event's row and holds the operands. -/
theorem decode_eq_ok_iff_row {w : Word} {i : Instr} :
    decode w = .ok i ↔ w &&& (rowOf i).mask = (rowOf i).pattern ∧ HoldsOperands w i := by
  rw [decode_eq_ok_iff_fields, and_rowMask_eq_iff, and_assoc]

/-- Settles O2: each row of the table is the row of an event, and each event's row is in the table. -/
theorem decoderAcceptsExactlyTheOpcodeTable : Obligations.DecoderAcceptsExactlyTheOpcodeTable := by
  constructor
  · intro w r hr hmatch
    obtain ⟨i, rfl, hoperands⟩ := exists_event_of_row w hr
    exact ⟨i, decode_eq_ok_iff_row.2 ⟨hmatch, hoperands⟩, rfl⟩
  · intro w i hdecode
    exact ⟨rowOf i, rowOf_mem_opcodeTable i, rfl, (decode_eq_ok_iff_row.1 hdecode).1⟩

/-! ### Refusals (30_encoding.md R84) -/

/-- A word that is no event has a reserved opcode, or another one and a reserved field that is not 0. -/
theorem decode_eq_error {w : Word} {e : DecodeError} (h : decode w = .error e) :
    ((opField w).toNat ∈ [0x5, 0x6, 0x7, 0xD] ∧ e = .reservedOpcode (opField w).toNat) ∨
    ((opField w).toNat ∉ [0x5, 0x6, 0x7, 0xD] ∧ e = .reservedField) := by
  have := (opField w).isLt
  unfold decode at h
  split at h
  case h_13 =>
    cases h
    refine .inl ⟨?_, rfl⟩
    simp only [imp_false, List.mem_cons, List.not_mem_nil, or_false] at *
    omega
  all_goals
    rename_i hop
    unfold withFormat at h
    split at h
    · cases h
    · cases h; exact .inr ⟨by rw [hop]; decide, rfl⟩

/-- A word outside the event set does not decode: what decodes matches the row of its event. -/
theorem exists_decode_error_of_outside {w : Word} (h : OutsideEventSet w) : ∃ e, decode w = .error e := by
  cases hdecode : decode w with
  | error e => exact ⟨e, rfl⟩
  | ok i => exact absurd (decode_eq_ok_iff_row.1 hdecode).1 (h _ (rowOf_mem_opcodeTable i))

theorem step_of_decode_error {s : State} {cmd : Word} {rest : List Stimulus} {e : DecodeError}
    (hinbox : s.inbox = .event cmd :: rest) (hdecode : decode cmd = .error e) :
    step s = .refused (decodeRefusal e) := by
  simp [step, takeStimulus_cons hinbox, hdecode]

/-- Settles O5: the word does not decode, and the decoder's two errors are the two clauses. -/
theorem stepRefusesWordsOutsideTheEventSet : Obligations.StepRefusesWordsOutsideTheEventSet := by
  intro s cmd rest hinbox houtside
  obtain ⟨e, hdecode⟩ := exists_decode_error_of_outside houtside
  rw [step_of_decode_error hinbox hdecode, ← opField_toNat]
  rcases decode_eq_error hdecode with ⟨hop, rfl⟩ | ⟨hop, rfl⟩
  · exact .inl ⟨hop, rfl⟩
  · exact .inr ⟨hop, rfl⟩

/-- Settles O6: by the outcome of `step`; taking the refused word leaves the rest of the stream. -/
theorem hardwareAnswersRefusedEventsWithZero : Obligations.HardwareAnswersRefusedEventsWithZero := by
  constructor
  · intro s r x rest hinbox hstep
    simp only [hardwareStep, hstep, answerRefused, takeStimulus_cons hinbox]
    rfl
  · intro s t hstep
    simp only [hardwareStep, hstep]

theorem sampleInRange_eq_false {p : Config.Params} {sample : Sample} (h : adcMax p < sample.toNat) :
    sampleInRange p sample = false := by
  simpa [sampleInRange] using h

/-- Settles O16: the mask is asked before the sample. -/
theorem operandRefusalsOfQuantAndTick : Obligations.OperandRefusalsOfQuantAndTick := by
  refine ⟨fun s sample => rfl, fun s sample mask hmask hsample => ?_, fun s sample gc gt hsample => ?_⟩
  · simp [exec, execQuant, hmask, sampleInRange_eq_false hsample]
  · simp [exec, execTick, sampleInRange_eq_false hsample]

/-- Settles O52: RDREG has no value to answer exactly for the unlisted numbers. -/
theorem rdregRefusesUnlistedNumbers : Obligations.RdregRefusesUnlistedNumbers := by
  intro s reg hreg
  have hunlisted : reg.toNat = 0x0F ∨ 0x1C ≤ reg.toNat := hreg.imp_left (congrArg BitVec.toNat)
  have hnone : readRegister s reg = none := by
    rw [← Option.not_isSome_iff_eq_none, readRegister_isSome]
    simpa [or_iff_not_imp_left] using hunlisted
  simp only [exec, execRdreg, hnone]

/-- Settles O3: the words of 30_encoding.md R87 and R108 are the words of their events. -/
theorem specWordsDecode : Obligations.SpecWordsDecode := by
  simp only [Obligations.SpecWordsDecode, decode_eq_ok_iff]
  decide

/-! ### Answers (30_encoding.md R80, R86) -/

/-- No event writes a parameter or the undelivered stimuli. -/
theorem effect_keeps_environment (i : Instr) (s : State) :
    (effect i s).params = s.params ∧ (effect i s).inbox = s.inbox := by
  cases i with
  | nvwrite mask => simp only [effect]; rw [writeMask_frame]; simp
  | flush =>
    simp only [effect]
    split
    · rw [writeMask_frame]; simp
    · simp
  | tick sample gc gt => simp [effect, tickState, tickFront_eq]
  | nop | quant | btnstep | ledstep | panstep | nvread | rdreg | boot | reset => simp [effect]

/-- Settles O9: a completed event answers, and its effect keeps what it got. -/
theorem eventsAnswerAndKeepParameters : Obligations.EventsAnswerAndKeepParameters := by
  intro i s t h
  obtain ⟨r, rfl⟩ := eq_answer_effect_of_exec h
  obtain ⟨hparams, hinbox⟩ := effect_keeps_environment i s
  exact ⟨hparams, hinbox, r, rfl⟩

/-- The answer of TICK as a number: the code, and one bit above it for each of the four flags. -/
theorem tickResponse_eq (s : State) (begun ended elapsed : Bool) :
    tickResponse s begun ended elapsed = BitVec.ofNat 32 (s.dacCode.toNat + 65536 * s.gate.toNat +
      131072 * begun.toNat + 262144 * ended.toNat + 524288 * elapsed.toNat) := by
  have hflags : bitAt 19 elapsed ||| bitAt 18 ended ||| bitAt 17 begun ||| bitAt 16 s.gate =
      fieldAt 16 (BitVec.ofNat 4 (s.gate.toNat + 2 * begun.toNat + 4 * ended.toNat + 8 * elapsed.toNat)) := by
    generalize s.gate = gate
    revert gate begun ended elapsed
    decide
  have hcode : (fieldAt 0 s.dacCode).toNat = s.dacCode.toNat := toNat_fieldAt_zero _ (by decide)
  have := s.gate.toNat_lt
  have := begun.toNat_lt
  have := ended.toNat_lt
  have := elapsed.toNat_lt
  apply BitVec.eq_of_toNat_eq
  rw [tickResponse, hflags, toNat_fieldAt_or _ (by omega) (by decide), hcode]
  simp only [BitVec.toNat_ofNat]
  omega

/-- A pitch that fits its register is new exactly when none was emitted or the register changes with it. -/
theorem pitchIsNew_iff {p : Int} {s : State} (hlow : -2 ^ 14 ≤ p) (hhigh : p < 2 ^ 14) :
    pitchIsNew p s = true ↔ s.emitValid = false ∨ BitVec.ofInt 16 p ≠ s.prevEmit := by
  have hfits : (BitVec.ofInt 16 p).toInt = p := toInt_ofInt_of_fits (by omega) (by omega)
  rw [pitchIsNew, Bool.or_eq_true, Bool.not_eq_true', decide_eq_true_iff, Ne, Ne, ← BitVec.toInt_inj, hfits]

/-- Steps 5 and 6 begin an output exactly when they emit a pitch new against the previous one. -/
theorem tickQuantize_begun_iff (f : Nat) (s : State) :
    (tickQuantize f s).2 = true ↔ (tickQuantize f s).1.emitValid = true ∧
      (s.emitValid = false ∨ (tickQuantize f s).1.prevEmit ≠ s.prevEmit) := by
  cases hp : quantize s.params s.mask (acceptedCode f s) with
  | none => simp [tickQuantize, hp]
  | some p =>
    obtain ⟨hlow, hhigh⟩ := quantize_bounds hp
    rw [tickQuantize_of_some hp]
    split <;> rename_i hnew
    · simpa using (pitchIsNew_iff hlow hhigh).1 hnew
    · simp

/-- Steps 4 to 6 begin an output exactly when they emit a pitch new against the previous one. -/
theorem tickPitch_begun_iff (f : Nat) (gc gt : Bool) (s : State) :
    (tickPitch f gc gt s).2 = true ↔ (tickPitch f gc gt s).1.emitValid = true ∧
      (s.emitValid = false ∨ (tickPitch f gc gt s).1.prevEmit ≠ s.prevEmit) := by
  rcases tickPitch_cases f gc gt s with ⟨-, heq⟩ | ⟨-, -, heq⟩ | ⟨-, -, heq⟩ <;> rw [heq]
  · simp
  · simp
  · exact tickQuantize_begun_iff f s

/-- Settles O45: the answer holds the code and the gate of the state after the tick; the first of its three flags
is step 6's, the other two are the expiries of the timers in steps 7 and 8. -/
theorem tickAnswersWhatHappened : Obligations.TickAnswersWhatHappened := by
  intro s t sample gc gt h
  obtain ⟨-, rfl⟩ := execTick_next_iff.1 h
  refine ⟨_, _, _, congrArg some (tickResponse_eq _ _ _ _), ?_, ?_, ?_⟩
  · simpa [tickState, tickFront_eq] using tickPitch_begun_iff (filtered (polled sample s)) gc gt (polled sample s)
  · exact tickTimer_expired_iff _ _
  · exact tickTimer_expired_iff _ _

end Sys2Proof.Proofs

/-! PROOFS. The Quantizer (spec/41_quantizer.md): where it has a value (R109), that the value is the nearest enabled
note (R100, R114) by the tie rules of R104 and R105 and within R111's bound, that it rises with its input (R112), and
what QUANT answers (R108). -/

namespace Sys2Proof.Proofs

open Sys2Proof.Machine Sys2Proof.Safety

/-! ### Where the Quantizer has a value (41_quantizer.md R109) -/

theorem quantizeQ8_isSome_iff (mask : NoteMask) (s : Int) :
    (quantizeQ8 mask s).isSome ↔ ∃ i < 12, mask.getLsbD i = true := by
  rw [quantizeQ8, Option.isSome_map, selectNearest_isSome]
  simp

/-- Settles O17: a mask other than 0 has a bit set, and its bits are the twelve notes. -/
theorem quantizerHasAValueExactlyOnNonemptyMasks : Obligations.QuantizerHasAValueExactlyOnNonemptyMasks := by
  intro mask s
  rw [quantizeQ8_isSome_iff]
  constructor
  · rintro ⟨i, -, hi⟩ rfl
    simp at hi
  · intro hmask
    by_contra hnone
    refine hmask (BitVec.eq_of_getLsbD_eq fun i hi => ?_)
    have hoff : mask.getLsbD i = false := by simpa using fun hon => hnone ⟨i, hi, hon⟩
    simpa using hoff

/-! ### The pitch and the points of the enabled notes (41_quantizer.md R104, R105, R111) -/

section Pitch

variable {mask : NoteMask} {s pitch k : Int}

/-- The selected distance is at most six semitones, the lower end excluded (41_quantizer.md R104). -/
theorem quantizeQ8_within (h : quantizeQ8 mask s = some pitch) :
    -1536 < 256 * pitch - s ∧ 256 * pitch - s ≤ 1536 := by
  obtain ⟨d, -, hd, hlow, hhigh, -⟩ := quantizeQ8_eq_some h
  omega

theorem quantizeQ8_note_enabled (h : quantizeQ8 mask s = some pitch) :
    mask.getLsbD (pitch % 12).toNat = true := by
  obtain ⟨d, -, -, -, -, i, -, hon, hnote, -⟩ := quantizeQ8_eq_some h
  rwa [hnote, Int.toNat_natCast]

/-- The selection answers the distance from the input to the point of the pitch. -/
theorem selectNearest_of_quantizeQ8 (h : quantizeQ8 mask s = some pitch) :
    selectNearest mask s (octaveOf (floorSemitone s)) none (List.range 12) = some (256 * pitch - s) := by
  obtain ⟨d, hsel, hd, -⟩ := quantizeQ8_eq_some h
  rw [hsel, ← hd, add_sub_cancel_left]

theorem toNat_emod_twelve_lt (k : Int) : (k % 12).toNat < 12 := by omega

/-- A point within the fold is weighed by the selection; one outside is at least six semitones away, which no pitch
is beyond. -/
theorem quantizeQ8_nearest (h : quantizeQ8 mask s = some pitch) (hon : mask.getLsbD (k % 12).toNat = true) :
    (256 * pitch - s).natAbs ≤ (256 * k - s).natAbs := by
  by_cases hfold : -1536 < 256 * k - s ∧ 256 * k - s ≤ 1536
  · obtain ⟨-, -, hleast⟩ := selectNearest_spec _ _ _ _ _ _ (selectNearest_of_quantizeQ8 h)
    have := hleast _ (List.mem_range.2 (toNat_emod_twelve_lt k)) hon
    rwa [foldedDistance_of_point s k hfold.1 hfold.2] at this
  · have := quantizeQ8_within h
    omega

/-- What the selection answers comes from a note no later than any enabled note as near: once such a note has been
weighed, nothing later is strictly nearer than what is kept. -/
theorem exists_le_of_selectNearest_range {o d : Int} {n i : Nat}
    (h : selectNearest mask s o none (List.range n) = some d) (hi : i < n) (hon : mask.getLsbD i = true)
    (hdist : (foldedDistance s o i).natAbs = d.natAbs) :
    ∃ j ≤ i, d = foldedDistance s o j := by
  obtain ⟨m, rfl⟩ := Nat.exists_eq_add_of_le (Nat.succ_le_of_lt hi)
  obtain ⟨-, -, hleast⟩ := selectNearest_spec _ _ _ _ _ _ h
  have hkept : (selectNearest mask s o none (List.range (i + 1))).isSome := by
    rw [selectNearest_isSome]
    simpa using ⟨i, le_rfl, hon⟩
  obtain ⟨b, hb⟩ := Option.isSome_iff_exists.1 hkept
  obtain ⟨horigin, -, hbest⟩ := selectNearest_spec _ _ _ _ _ _ hb
  have hbd : b.natAbs ≤ d.natAbs := hdist ▸ hbest i (by simp) hon
  have heq : b = d := by
    rw [List.range_add, selectNearest_append, hb, selectNearest_keeps] at h
    · exact Option.some.inj h
    · intro j hj hjon
      exact hbd.trans (hleast j (by rw [List.range_add]; exact List.mem_append_right _ hj) hjon)
  obtain ⟨⟨⟩⟩ | ⟨j, hj, -, rfl⟩ := horigin
  exact ⟨j, Nat.le_of_lt_succ (List.mem_range.1 hj), heq.symm⟩

/-- Among points as near as the pitch, and within the fold, none has a lower note index (41_quantizer.md R105). -/
theorem quantizeQ8_note_le (h : quantizeQ8 mask s = some pitch) (hon : mask.getLsbD (k % 12).toNat = true)
    (hdist : (256 * k - s).natAbs = (256 * pitch - s).natAbs) (hlow : -1536 < 256 * k - s) :
    pitch % 12 ≤ k % 12 := by
  have hpitch := quantizeQ8_within h
  have hk := foldedDistance_of_point s k hlow (by omega)
  obtain ⟨j, hj, heq⟩ := exists_le_of_selectNearest_range (selectNearest_of_quantizeQ8 h)
    (toNat_emod_twelve_lt k) hon (by rw [hk, hdist])
  obtain ⟨-, -, p, hp, hnote⟩ := foldedDistance_spec s (i := j) (by omega)
  omega

/-- Each pitch is a point of the other input too, and the nearest to its own: were the lower input's pitch the higher
one, the two inputs could not be in this order (41_quantizer.md R112). -/
theorem quantizeQ8_mono {s' low high : Int} (hs : s ≤ s') (hlow : quantizeQ8 mask s = some low)
    (hhigh : quantizeQ8 mask s' = some high) : low ≤ high := by
  rcases hs.eq_or_lt with rfl | hlt
  · exact (Option.some.inj (hlow.symm.trans hhigh)).le
  · have hleast := quantizeQ8_nearest hlow (quantizeQ8_note_enabled hhigh)
    have hleast' := quantizeQ8_nearest hhigh (quantizeQ8_note_enabled hlow)
    omega

end Pitch

/-- Settles O18: the pitch's note is enabled, and the selection has weighed every point within the fold. -/
theorem quantizerFindsTheNearestEnabledNote : Obligations.QuantizerFindsTheNearestEnabledNote :=
  fun _ _ _ h => ⟨quantizeQ8_note_enabled h, fun _ hon => quantizeQ8_nearest h hon⟩

/-- Settles O19: within the fold by the order of the selection, and one note has one point there; a point as near
outside the fold is six semitones below the input, and the pitch, six above it, is the same note an octave up. -/
theorem quantizerTiesGoToTheLowestNoteIndex : Obligations.QuantizerTiesGoToTheLowestNoteIndex := by
  intro mask s pitch k h hon hdist
  have hpitch := quantizeQ8_within h
  by_cases hlow : -1536 < 256 * k - s
  · have hnote := quantizeQ8_note_le h hon hdist hlow
    rcases hnote.lt_or_eq with hlt | heq
    · exact .inl hlt
    · exact .inr ⟨heq, by omega⟩
  · have hup : pitch = k + 12 := by omega
    exact .inr (by omega)

/-- Settles O20: the fold's bounds, and the whole semitones they leave. -/
theorem quantizerStaysWithinSixSemitones : Obligations.QuantizerStaysWithinSixSemitones := by
  intro mask s pitch h
  obtain ⟨hlow, hhigh⟩ := quantizeQ8_within h
  exact ⟨hlow, hhigh, by omega, by omega⟩

/-- Settles O21: the Pitch Table rises with the code and the Quantizer with the table's entry. -/
theorem quantizerIsMonotone : Obligations.QuantizerIsMonotone :=
  fun _ _ a b _ _ hp hab hb hlow hhigh => ⟨quantizeQ8_mono (hp.tableRises a b hab hb) hlow hhigh, hlow, hhigh⟩

/-! ### The event QUANT (41_quantizer.md R101, R108, R110) -/

/-- A pitch of a table entry, which has 16 bits, fits the response field (41_quantizer.md R110). -/
theorem quantizeQ8_pt1_bounds {p : Config.Params} {mask : NoteMask} {code : Nat} {pitch : Int}
    (h : quantizeQ8 mask (pt1 p code) = some pitch) : -133 ≤ pitch ∧ pitch ≤ 133 := by
  have hs := pt1_bounds p code
  have := quantizeQ8_within h
  omega

theorem pt1_of_linear {p : Config.Params} {code k : Nat} (hcode : code ≤ adcMax p) (hp : p.pt1 = .linear k) :
    pt1 p code = (BitVec.ofNat 16 (k * code)).toInt := by
  rw [pt1, if_pos hcode, hp]
  rfl

theorem pt1_of_entries {p : Config.Params} {code : Nat} {values : List (BitVec 16)} {entry : BitVec 16}
    (hcode : code ≤ adcMax p) (hp : p.pt1 = .entries values) (hentry : values[code]? = some entry) :
    pt1 p code = entry.toInt := by
  rw [pt1, if_pos hcode, hp, pitchEntry, hentry, Option.getD_some]

/-- QUANT on operands in range answers the pitch and does nothing else (41_quantizer.md R108). -/
theorem exec_quant_of_quantize {s : State} {sample : Sample} {mask : NoteMask} {pitch : Int} (hmask : mask ≠ 0#12)
    (hsample : sample.toNat ≤ adcMax s.params) (h : quantize s.params mask sample.toNat = some pitch) :
    exec (.quant sample mask) s = .next (answer (BitVec.ofNat 32 (pitch % 65536).toNat) s) := by
  have hrange : sampleInRange s.params sample = true := decide_eq_true hsample
  simp only [exec, execQuant, if_neg hmask, hrange, if_true, h, tc16_setWidth]

/-- Settles O15: a nonempty mask has a pitch (O17), and QUANT answers it. -/
theorem quantAnswersThePitch : Obligations.QuantAnswersThePitch := by
  refine ⟨fun p mask code => rfl, fun p code hcode => ⟨fun k => pt1_of_linear hcode, fun values entry =>
    pt1_of_entries hcode⟩, fun s sample mask hmask hsample => ?_⟩
  have hsome := (quantizerHasAValueExactlyOnNonemptyMasks mask (pt1 s.params sample.toNat)).2 hmask
  obtain ⟨pitch, hpitch⟩ := Option.isSome_iff_exists.1 hsome
  obtain ⟨hlow, hhigh⟩ := quantizeQ8_pt1_bounds hpitch
  exact ⟨pitch, hpitch, hlow, hhigh, exec_quant_of_quantize hmask hsample hpitch⟩

end Sys2Proof.Proofs

/-! PROOFS. The Panel Scanner (spec/42_panel_scanner.md): the debounce of one button (R123 to R125) and over its samples
(R137), BTNSTEP (R127) and the button cycle (R122), LEDSTEP (R132), and PANSTEP as the two in a row (R133). -/

namespace Sys2Proof.Proofs

open Sys2Proof.Machine Sys2Proof.Safety

/-! ### The debounce of one button (42_panel_scanner.md R123 to R125) -/

theorem debounce_edge_iff (w : Nat) (hist : BitVec 8) (pressed lvl : Bool) :
    (debounce w hist pressed lvl).edge = true ↔ shiftHistory w hist lvl = fullWindow w ∧ pressed = false := by
  rcases debounce_cases w hist pressed lvl with ⟨hfull, hup, h⟩ | ⟨hno, -, h⟩ | ⟨hno, -, h⟩ <;> rw [h]
  · exact iff_of_true rfl ⟨hfull, hup⟩
  · exact iff_of_false Bool.false_ne_true hno
  · exact iff_of_false Bool.false_ne_true hno

/-- After a step a button is pressed when its edge came, or when it was and the window is not empty. -/
theorem debounce_pressed (w : Nat) (hist : BitVec 8) (pressed lvl : Bool) :
    (debounce w hist pressed lvl).pressed =
      ((debounce w hist pressed lvl).edge || (pressed && decide ((shiftHistory w hist lvl).toNat ≠ 0))) := by
  rcases debounce_cases w hist pressed lvl with ⟨-, -, h⟩ | ⟨-, hzero, h⟩ | ⟨-, hzero, h⟩ <;> rw [h]
  · rfl
  · simp [hzero]
  · have hne : (shiftHistory w hist lvl).toNat ≠ 0 := fun h0 => hzero (BitVec.eq_of_toNat_eq h0)
    simp [hne]

/-- A full window, in numbers. -/
theorem shiftHistory_eq_fullWindow_iff {w : Nat} (hw : w ≤ 8) (hist : BitVec 8) (lvl : Bool) :
    shiftHistory w hist lvl = fullWindow w ↔ (shiftHistory w hist lvl).toNat = 2 ^ w - 1 := by
  rw [← BitVec.toNat_inj, fullWindow_toNat hw]

/-! ### BTNSTEP (42_panel_scanner.md R121 to R127) -/

section ButtonStep

variable (s : State) (lvl : Bool) (c : Fin 12)

theorem buttonStep_hist_get : (buttonStep lvl s).hist[c] =
    if c = buttonIndex s.row s.col then (buttonDebounce lvl s).hist else s.hist[c] := by
  simp [Vector.getElem_set, Fin.ext_iff, eq_comm]

theorem buttonStep_pressed_get : (buttonStep lvl s).pressed.getLsbD c =
    if c = buttonIndex s.row s.col then (buttonDebounce lvl s).pressed else s.pressed.getLsbD c :=
  putBit_getLsbD _ _ _ _

/-- A ButtonEdge toggles the mask bit of the sampled button and no other (42_panel_scanner.md R126). -/
theorem buttonStep_mask_get : (buttonStep lvl s).mask.getLsbD c =
    (s.mask.getLsbD c ^^ ((buttonDebounce lvl s).edge && decide (c = buttonIndex s.row s.col))) := by
  cases hedge : (buttonDebounce lvl s).edge <;> simp [hedge]

/-- The history of the sampled button. -/
theorem buttonStep_hist_sampled : (buttonStep lvl s).hist[buttonIndex s.row s.col] =
    shiftHistory s.params.debounceW s.hist[buttonIndex s.row s.col] lvl := by
  rw [buttonStep_hist_get, if_pos rfl, buttonDebounce, debounce_hist]

/-- When a button step brings an edge, by the history it leaves (42_panel_scanner.md R124). -/
theorem buttonDebounce_edge_iff (hw : s.params.debounceW ≤ 8) : (buttonDebounce lvl s).edge = true ↔
    ((buttonStep lvl s).hist[buttonIndex s.row s.col]).toNat = 2 ^ s.params.debounceW - 1 ∧
      s.pressed.getLsbD (buttonIndex s.row s.col) = false := by
  rw [buttonStep_hist_sampled, ← shiftHistory_eq_fullWindow_iff hw, buttonDebounce, debounce_edge_iff]

/-- Whether the sampled button is pressed, by the edge and the history the step leaves
(42_panel_scanner.md R124, R125). -/
theorem buttonStep_pressed_sampled : (buttonStep lvl s).pressed.getLsbD (buttonIndex s.row s.col) =
    ((buttonDebounce lvl s).edge || (s.pressed.getLsbD (buttonIndex s.row s.col) &&
      decide (((buttonStep lvl s).hist[buttonIndex s.row s.col]).toNat ≠ 0))) := by
  rw [buttonStep_pressed_get, if_pos rfl, buttonStep_hist_sampled, buttonDebounce, debounce_pressed]

end ButtonStep

/-- The answer of BTNSTEP as a number. -/
theorem btnResponse_eq (edge : Bool) (b : Fin 12) :
    btnResponse edge b = BitVec.ofNat 32 (65536 * edge.toNat + b.val) := by
  revert edge b
  decide

/-- Settles O23: the edge of the sampled button's debounce decides the press, the toggle, TOUCH and the answer. -/
theorem btnstepDebouncesOneButton : Obligations.BtnstepDebouncesOneButton := by
  intro s lvl b _ hw hb
  obtain rfl : b = buttonIndex s.row s.col := Fin.ext hb
  obtain ⟨hcol, hrow⟩ := advanceScan_val s.row s.col
  refine ⟨_, rfl, ?_, fun c hc => ⟨?_, ?_, ?_⟩, fun hfull hup => ?_, fun hno => ?_, hcol, hrow, rfl,
    nvByte_congr rfl rfl⟩
  · rw [answer_hist, buttonStep_hist_sampled, shiftHistory_toNat hw]
  · exact (buttonStep_hist_get s lvl c).trans (if_neg hc)
  · exact (buttonStep_pressed_get s lvl c).trans (if_neg hc)
  · simpa [hc] using buttonStep_mask_get s lvl c
  · have hedge := (buttonDebounce_edge_iff s lvl hw).2 ⟨hfull, hup⟩
    exact ⟨(buttonStep_pressed_sampled s lvl).trans (by rw [hedge, Bool.true_or]),
      (buttonStep_mask_get s lvl _).trans (by simp [hedge]), by simp [hedge],
      by rw [answer_rsp, btnResponse_eq, hedge]; rfl⟩
  · have hedge := Bool.eq_false_iff.2 (mt (buttonDebounce_edge_iff s lvl hw).1 hno)
    exact ⟨(buttonStep_pressed_sampled s lvl).trans (by rw [hedge, Bool.false_or]; rfl), by simp [hedge],
      by simp [hedge], by rw [answer_rsp, btnResponse_eq, hedge, Bool.toNat_false, Nat.mul_zero, Nat.zero_add]⟩

/-! ### The button cycle (42_panel_scanner.md R122) -/

/-- The events that make a button step. -/
def IsButtonStep (i : Instr) : Prop := ∃ lvl, i = .btnstep lvl ∨ i = .panstep lvl

theorem exec_of_isButtonStep {i : Instr} (h : IsButtonStep i) (s : State) :
    ∃ t, exec i s = .next t ∧ t.row = (advanceScan s.row s.col).1 ∧ t.col = (advanceScan s.row s.col).2 := by
  obtain ⟨lvl, rfl | rfl⟩ := h <;> exact ⟨_, rfl, rfl, rfl⟩

theorem buttonIndex_inj {row row' : Fin 3} {col col' : Fin 4}
    (h : (buttonIndex row col).val = (buttonIndex row' col').val) : row = row' ∧ col = col' := by
  simp only [buttonIndex] at h
  omega

/-- Button steps in a row complete, and each moves on to the next of the twelve buttons. -/
theorem execAll_buttonSteps (events : List Instr) (h : ∀ i ∈ events, IsButtonStep i) (s : State) :
    ∃ t, execAll events s = .next t ∧
      (buttonIndex t.row t.col).val = ((buttonIndex s.row s.col).val + events.length) % 12 := by
  induction events generalizing s with
  | nil => exact ⟨s, rfl, by simp [Nat.mod_eq_of_lt]⟩
  | cons i rest ih =>
    obtain ⟨hi, hrest⟩ := List.forall_mem_cons.1 h
    obtain ⟨u, hu, hrow, hcol⟩ := exec_of_isButtonStep hi s
    obtain ⟨t, ht, hidx⟩ := ih hrest u
    refine ⟨t, by simp only [execAll, hu, ht], ?_⟩
    rw [hidx, hrow, hcol, buttonIndex_advanceScan, List.length_cons]
    omega

/-- Settles O24: `n` steps after button `a` the position is button `(a + n) mod 12`, so `b` is sampled at the one
`n` below 12 with `a + n = b` modulo 12. -/
theorem twelveButtonStepsSampleEachButtonOnce : Obligations.TwelveButtonStepsSampleEachButtonOnce := by
  refine ⟨fun s t lvl h => ?_, fun s events hlen hsteps => ⟨?_, fun b => ?_⟩⟩
  · have hpos : t.row = (advanceScan s.row s.col).1 ∧ t.col = (advanceScan s.row s.col).2 := by
      rcases h with h | h <;> cases h <;> exact ⟨rfl, rfl⟩
    obtain ⟨hcol, hrow⟩ := advanceScan_val s.row s.col
    rw [hpos.1, hpos.2, hcol, hrow]
    constructor <;> grind
  · obtain ⟨t, ht, hidx⟩ := execAll_buttonSteps events hsteps s
    refine ⟨t, ht, buttonIndex_inj ?_⟩
    omega
  · have hsample (n : Nat) (hn : n < 12) :
        (∃ u, execAll (events.take n) s = .next u ∧ u.row.val * 4 + u.col.val = b.val) ↔
          ((buttonIndex s.row s.col).val + n) % 12 = b.val := by
      obtain ⟨t, ht, hidx⟩ := execAll_buttonSteps (events.take n)
        (fun i hi => hsteps i (List.mem_of_mem_take hi)) s
      rw [List.length_take_of_le (by omega)] at hidx
      simp only [ht, Host.Outcome.next.injEq, exists_eq_left', ← hidx]
      rfl
    refine ⟨(b.val + 12 - (buttonIndex s.row s.col).val) % 12, ⟨by omega, ?_⟩, ?_⟩
    · rw [hsample _ (by omega)]
      omega
    · rintro n ⟨hn, hu⟩
      rw [hsample n hn] at hu
      omega

/-! ### The debounce over a button's samples (42_panel_scanner.md R137) -/

/-- The window of `hist` shows the samples `past`, newest first, and the level `first` in every place before them. -/
def WindowShows (w : Nat) (first : Bool) (past : List Bool) (hist : BitVec 8) : Prop :=
  ∀ i < w, hist.getLsbD i = past.getD i first

theorem getLsbD_fullWindow {w i : Nat} (hw : w ≤ 8) (hi : i < w) : (fullWindow w).getLsbD i = true := by
  have hi8 : i < 8 := by omega
  simp [fullWindow, BitVec.getLsbD_ofNat, Nat.testBit_two_pow_sub_one, hi, hi8]

theorem windowShows_fullWindow {w : Nat} (hw : w ≤ 8) : WindowShows w true [] (fullWindow w) :=
  fun _ hi => getLsbD_fullWindow hw hi

theorem windowShows_zero (w : Nat) : WindowShows w false [] 0#8 := fun i _ => by simp

theorem windowShows_shiftHistory {w : Nat} {first : Bool} {past : List Bool} {hist : BitVec 8} (hw : w ≤ 8)
    (h : WindowShows w first past hist) (lvl : Bool) :
    WindowShows w first (lvl :: past) (shiftHistory w hist lvl) := by
  intro i hi
  rw [shiftHistory, BitVec.getLsbD_and, getLsbD_fullWindow hw hi]
  cases i with
  | zero => simp
  | succ j =>
    have hlast := h j (by omega)
    have hj : j + 1 < 8 := by omega
    rw [BitVec.getLsbD_eq_getElem (by omega)] at hlast
    simpa [hj] using hlast

theorem windowShows_debounceRun {w : Nat} {first : Bool} (hw : w ≤ 8) (samples past : List Bool) (hist : BitVec 8)
    (pressed : Bool) (h : WindowShows w first past hist) :
    WindowShows w first (samples.reverse ++ past) (debounceRun w hist pressed samples).1 := by
  induction samples generalizing past hist pressed with
  | nil => exact h
  | cons lvl rest ih =>
    have hnext := windowShows_shiftHistory hw h lvl
    rw [← debounce_hist w hist pressed lvl] at hnext
    simpa [debounceRun] using ih _ _ _ hnext

/-- A window of one level throughout is a run of that many samples, unless it may show `first` before them. -/
theorem replicate_isPrefix_of_windowShows {w : Nat} {first x : Bool} {past : List Bool} {hist : BitVec 8}
    (h : WindowShows w first past hist) (hx : ∀ i < w, hist.getLsbD i = x) (hback : x ≠ first ∨ w ≤ past.length) :
    List.replicate w x <+: past := by
  rw [List.prefix_iff_getElem?]
  intro i hi
  have hi : i < w := by simpa using hi
  have hget : past.getD i first = x := (h i hi).symm.trans (hx i hi)
  have hlen : i < past.length := by
    by_contra hlen
    rw [List.getD_eq_default _ _ (by omega)] at hget
    exact hback.elim (· hget.symm) (by omega)
  rw [List.getD_eq_getElem _ _ hlen] at hget
  rw [List.getElem?_eq_getElem hlen, hget, List.getElem_replicate]

/-- A run of the newest samples ends the samples in their order. -/
theorem exists_eq_append_replicate {w : Nat} {x : Bool} {samples : List Bool}
    (h : List.replicate w x <+: samples.reverse) : ∃ before, samples = before ++ List.replicate w x := by
  rw [← List.reverse_replicate, List.reverse_prefix] at h
  obtain ⟨before, hbefore⟩ := h
  exact ⟨before, hbefore.symm⟩

/-- A pressed button is released only on an empty window (42_panel_scanner.md R125). -/
theorem exists_empty_of_debounceRun_released {w : Nat} (samples : List Bool) (hist : BitVec 8)
    (h : (debounceRun w hist true samples).2 = false) :
    ∃ pre, pre <+: samples ∧ (debounceRun w hist true pre).1 = 0#8 := by
  induction samples generalizing hist with
  | nil => cases h
  | cons lvl rest ih =>
    rw [debounceRun] at h
    rcases debounce_cases w hist true lvl with ⟨-, hup, -⟩ | ⟨-, hzero, heq⟩ | ⟨-, -, heq⟩
    · cases hup
    · exact ⟨[lvl], List.prefix_append [lvl] rest, by rw [debounceRun, debounceRun, debounce_hist, hzero]⟩
    · rw [heq] at h
      obtain ⟨pre, hpre, hempty⟩ := ih _ h
      exact ⟨lvl :: pre, (List.prefix_cons_inj lvl).2 hpre, by rw [debounceRun, heq, hempty]⟩

/-- An edge shows a full window: the last samples are active, unless it may show `first` before them. -/
theorem exists_active_of_edge {w : Nat} {first : Bool} {hist : BitVec 8} {pressed last : Bool} (hw : w ≤ 8)
    (samples : List Bool) (h : WindowShows w first samples.reverse hist)
    (hedge : (debounce w hist pressed last).edge = true) (hback : true ≠ first ∨ w ≤ samples.length + 1) :
    ∃ before, samples ++ [last] = before ++ List.replicate w true := by
  have hfull := ((debounce_edge_iff _ _ _ _).1 hedge).1
  have hpast := replicate_isPrefix_of_windowShows (windowShows_shiftHistory hw h last)
    (fun i hi => by rw [hfull, getLsbD_fullWindow hw hi]) (by simpa using hback)
  exact exists_eq_append_replicate (by simpa using hpast)

/-- Settles O25: an edge is a full window of a released button; a pressed button is released on an empty window. -/
theorem bouncingGivesOneEdgePerPress : Obligations.BouncingGivesOneEdgePerPress := by
  intro w samples last _ hw
  refine ⟨fun hedge => ?_, fun hedge => ?_⟩
  · obtain ⟨pre, ⟨after, rfl⟩, hempty⟩ :=
      exists_empty_of_debounceRun_released samples _ ((debounce_edge_iff _ _ _ _).1 hedge).2
    have hpre := windowShows_debounceRun hw pre [] _ true (windowShows_fullWindow hw)
    have hinactive := replicate_isPrefix_of_windowShows hpre (x := false)
      (fun _ _ => by rw [hempty, BitVec.getLsbD_zero]) (.inl Bool.false_ne_true)
    obtain ⟨before, rfl⟩ := exists_eq_append_replicate (by simpa using hinactive)
    refine ⟨⟨before, after, rfl⟩, ?_⟩
    have hrun := windowShows_debounceRun hw (before ++ List.replicate w false ++ after) [] _ true
      (windowShows_fullWindow hw)
    rw [List.append_nil] at hrun
    exact exists_active_of_edge hw _ hrun hedge (.inr (by
      simp only [List.length_append, List.length_replicate]
      omega))
  · have hrun := windowShows_debounceRun hw samples [] _ false (windowShows_zero w)
    rw [List.append_nil] at hrun
    exact exists_active_of_edge hw _ hrun hedge (.inl Bool.false_ne_true.symm)

/-! ### LEDSTEP (42_panel_scanner.md R128 to R132) -/

/-- The answer of LEDSTEP as a number. -/
theorem ledResponse_eq (colour : BitVec 2) (k : Fin 12) :
    ledResponse colour k = BitVec.ofNat 32 (k.val + 16 * colour.toNat) := by
  revert colour k
  decide

/-- Settles O26: the pins, the index and the answer by the colour of the stepped LED. -/
theorem ledstepLightsTheSteppedLed : Obligations.LedstepLightsTheSteppedLed := by
  intro s a b hpair hab
  refine ⟨_, rfl, fun p => ?_, advanceLed_val s.ledIdx, ?_, rfl, nvByte_congr rfl rfl⟩
  · rw [answer_ledPin, ledShow_ledPin, hpair, drivePins_get a b p _ hab, ledColour_eq]
    split
    · rfl
    · split <;> rfl
  · rw [answer_rsp, ledResponse_eq, ledColour_eq]
    split
    · rfl
    · split <;> rfl

/-! ### PANSTEP (42_panel_scanner.md R133) -/

theorem shiftLeft_fieldAt {w : Nat} (k m : Nat) (v : BitVec w) : fieldAt k v <<< m = fieldAt (k + m) v :=
  (BitVec.shiftLeft_add _ _ _).symm

/-- The answer of PANSTEP is that of the button step below that of the LED step. -/
theorem panResponse_eq (edge : Bool) (b : Fin 12) (colour : BitVec 2) (k : Fin 12) :
    panResponse edge b colour k = btnResponse edge b ||| ledResponse colour k <<< 8 := by
  rw [panResponse, btnResponse, ledResponse, BitVec.shiftLeft_or_distrib, shiftLeft_fieldAt, BitVec.or_assoc,
    BitVec.or_comm]

/-- Settles O27: the LED step puts its own pins in place of the blanked ones, and no part of the button step
reads a pin. -/
theorem panstepIsBtnstepThenLedstep : Obligations.PanstepIsBtnstepThenLedstep :=
  fun _ _ => ⟨_, _, _, _, _, rfl, rfl, rfl, rfl, rfl, congrArg (answer · _) (panResponse_eq _ _ _ _)⟩

end Sys2Proof.Proofs

/-! PROOFS. The Persistence Log (spec/43_persistence_log.md): what NVREAD recovers (R152, R160), what a mask write does
and when it is suppressed or refused (R154 to R158), that every step keeps the log healthy (R161), that a written mask
survives a reboot (R162), and what a torn write leaves to recover (R163, spec/60_exceptions.md R220). -/

namespace Sys2Proof.Proofs

open Sys2Proof.Machine Sys2Proof.Safety

/-! ### Recovery (43_persistence_log.md R151 to R153, R160) -/

/-- NVREAD completes and recovers, on any medium. -/
theorem exec_nvread_eq (s : State) :
    exec .nvread s = .next (answer (BitVec.ofNat 32 (recover s).curPay.toNat) (recover s)) := by
  rw [← fieldAt_zero (by decide)]
  rfl

/-- Settles O28: the index is where the walk ends, the cache is that slot's bytes. -/
theorem nvreadRecoversTheLongestRun : Obligations.NvreadRecoversTheLongestRun := by
  intro s
  obtain ⟨hrun, hend⟩ := currentSlot_spec s
  simp only [slotSeq, slotAddr_eq] at hrun hend
  refine ⟨_, exec_nvread_eq s, ?_⟩
  simp only [answer_curIdx, recover_curIdx_toNat]
  exact ⟨hrun, hend, congrArg _ (slotAddr_eq _ 2), slotPayload_toNat s _, rfl, rfl, rfl, nvByte_congr rfl rfl⟩

/-- On a medium whose bytes are all equal the run is slot 0 alone. -/
theorem runEndsAt_of_equal_bytes {s : State} {e : Byte} (h : ∀ a, a < 384 → nvByte s a = e) : RunEndsAt s 0 e := by
  have hseq : ∀ j, j < 128 → slotSeq s j = e := fun j hj => h _ (by rw [slotAddr_eq]; omega)
  refine ⟨by decide, fun j hj => ?_, fun j hj hj' => ?_⟩
  · obtain rfl : j = 0 := by omega
    simpa using hseq 0 (by decide)
  · simp only [Config.ringN] at hj'
    rw [hseq j hj']
    bv_omega

/-- Settles O29: the run of such a medium ends at slot 0, whose three bytes are that byte. -/
theorem erasedMediumRecoversSlotZero : Obligations.ErasedMediumRecoversSlotZero := by
  intro s e h
  have hslot : currentSlot s = 0 := currentSlot_of_run (runEndsAt_of_equal_bytes h)
  refine ⟨_, exec_nvread_eq s, by simp [hslot], ?_, ?_⟩
  · rw [answer_curSeq, recover_curSeq, hslot]
    exact h _ (by decide)
  · rw [answer_curPay, recover_curPay, hslot, slotPayload_toNat, h _ (by decide), h _ (by decide)]

/-! ### The write path (43_persistence_log.md R154 to R158) -/

section Write

variable {mask : NoteMask} {s : State}

theorem writeNeeded_curPay (s : State) : writeNeeded s.curPay s = false := bne_self_eq_false _

theorem writeNeeded_of_ne (h : mask ≠ s.curPay) : writeNeeded mask s = true := bne_iff_ne.2 h

theorem writeMask_curPay (s : State) : writeMask s.curPay s = s := by simp [writeMask, writeNeeded_curPay]

theorem writeMask_of_ne (h : mask ≠ s.curPay) : writeMask mask s = appendSlot mask s :=
  if_pos (writeNeeded_of_ne h)

theorem exec_nvwrite_of_valid (mask : NoteMask) (hvalid : s.nvValid = true) :
    exec (.nvwrite mask) s = .next (answer (bitAt 0 (writeNeeded mask s)) (writeMask mask s)) := if_pos hvalid

theorem exec_nvwrite_of_invalid (mask : NoteMask) (hvalid : s.nvValid = false) :
    exec (.nvwrite mask) s = .refused .logNotRecovered := if_neg (Bool.eq_false_iff.1 hvalid)

theorem exec_flush_of_elapsed (hvalid : s.nvValid = true) (helapsed : s.saveEl = true) :
    exec .flush s =
      .next (answer (flushResponse true (writeNeeded s.mask s)) { writeMask s.mask s with saveEl := false }) :=
  (if_pos hvalid).trans (if_pos helapsed)

theorem exec_flush_of_invalid (hvalid : s.nvValid = false) : exec .flush s = .refused .logNotRecovered :=
  if_neg (Bool.eq_false_iff.1 hvalid)

/-- Only a recovered log is written. -/
theorem nvValid_of_exec {i : Instr} {t : State} (hwrite : (∃ mask, i = .nvwrite mask) ∨ i = .flush)
    (hexec : exec i s = .next t) : s.nvValid = true := by
  by_contra hvalid
  rw [Bool.not_eq_true] at hvalid
  obtain ⟨mask, rfl⟩ | rfl := hwrite
  · rw [exec_nvwrite_of_invalid mask hvalid] at hexec; cases hexec
  · rw [exec_flush_of_invalid hvalid] at hexec; cases hexec

end Write

/-- Settles O31: the frame and the bytes of `appendSlot`. -/
theorem nvwriteAppendsASlot : Obligations.NvwriteAppendsASlot := by
  intro s mask hvalid hne
  have hidx : (appendSlot mask s).curIdx = nextSlot s := rfl
  have hbyte : ∀ a r, nvByte (answer r (appendSlot mask s)) a = nvByte (nvStoreAll s (slotWrites s mask)) a :=
    fun a _ => nvByte_appendSlot mask s a
  refine ⟨_, exec_nvwrite_of_valid mask hvalid, ?_⟩
  rw [writeMask_of_ne hne, writeNeeded_of_ne hne]
  simp only [answer_curIdx, hidx, hbyte, nvByte_slotWrites]
  refine ⟨nextSlot_toNat s, by simp [appendSlot, BitVec.toNat_add], rfl, rfl, ?_, ?_, ?_, fun a ha => ?_, ?_⟩
  · simp [BitVec.extractLsb'_toNat]
  · simp [payhi_toNat]
  · rw [if_neg (by omega), if_neg (by omega), if_pos trivial]
    rfl
  · rw [if_neg (by omega), if_neg (by omega), if_neg (by omega)]
  · conv_lhs => rw [appendSlot_frame]
    rfl

/-- Settles O32: the current payload needs no write. -/
theorem writesOfTheCurrentPayloadAreSuppressed : Obligations.WritesOfTheCurrentPayloadAreSuppressed := by
  intro s hvalid
  refine ⟨?_, fun helapsed hmask => ?_⟩
  · rw [exec_nvwrite_of_valid _ hvalid, writeNeeded_curPay, writeMask_curPay]
    rfl
  · have hneeded : writeNeeded s.mask s = false := hmask ▸ writeNeeded_curPay s
    have hkept : writeMask s.mask s = s := hmask ▸ writeMask_curPay s
    rw [exec_flush_of_elapsed hvalid helapsed, hneeded, hkept]
    rfl

/-- Settles O33: the guard of the two writes; both recoveries set NVVALID. -/
theorem logWritesAreRefusedBeforeRecovery : Obligations.LogWritesAreRefusedBeforeRecovery := by
  intro s mask hvalid
  refine ⟨exec_nvwrite_of_invalid mask hvalid, exec_flush_of_invalid hvalid, fun t h => ?_⟩
  rcases h with h | h <;> cases h <;> rfl

/-! ### The health of the log over the parts of a step (43_persistence_log.md R161) -/

section Health

variable {s : State}

/-- The run of a healthy log with a valid cache is that of the cached slot. -/
theorem run_of_logOk (h : LogOk s) (hvalid : s.nvValid = true) :
    ∃ b, RunEndsAt s s.curIdx.toNat b ∧ s.curSeq = b + BitVec.ofNat 8 s.curIdx.toNat ∧
      s.curPay = slotPayload s s.curIdx.toNat := by
  obtain ⟨k, b, hrun, hcache⟩ := h
  obtain ⟨rfl, hseq, hpay⟩ := hcache hvalid
  exact ⟨b, hrun, hseq, hpay⟩

/-- The health of the log is a matter of the medium and, while it is valid, the cache. -/
theorem logOk_congr {t : State} (h : LogOk s) (hmedium : ∀ a, nvByte t a = nvByte s a)
    (hcache : t.nvValid = true → t.curIdx = s.curIdx ∧ t.curSeq = s.curSeq ∧ t.curPay = s.curPay ∧
      t.nvValid = s.nvValid) : LogOk t := by
  obtain ⟨k, b, hrun, hlast⟩ := h
  refine ⟨k, b, runEndsAt_congr hrun (slotSeq_congr hmedium), fun hvalid => ?_⟩
  obtain ⟨hidx, hseq, hpay, heq⟩ := hcache hvalid
  rw [hidx, hseq, hpay, slotPayload_congr hmedium]
  exact hlast (heq ▸ hvalid)

theorem logOk_clearVolatile (h : LogOk s) : LogOk (clearVolatile s) :=
  logOk_congr h (nvByte_congr rfl rfl) nofun

theorem logOk_recover (h : LogOk s) : LogOk (recover s) := by
  obtain ⟨k, b, hrun, -⟩ := h
  have hslot := currentSlot_of_run hrun
  refine ⟨k, b, hrun, fun _ => ⟨by rw [recover_curIdx_toNat, hslot], ?_, by rw [recover_curPay, hslot]; rfl⟩⟩
  rw [recover_curSeq, hslot, hrun.2.1 k le_rfl]

/-- The written slot ends the run, and the cache holds it. -/
theorem logOk_appendSlot (h : LogOk s) (hvalid : s.nvValid = true) (mask : NoteMask) :
    LogOk (appendSlot mask s) := by
  obtain ⟨b, hrun, hseq, -⟩ := run_of_logOk h hvalid
  have hwritten := slotSeq_appendSlot mask s
  rw [nextSlot_toNat] at hwritten
  obtain ⟨c, hrun', hseq'⟩ := (run_after_sequence _ hrun hwritten).1 (by rw [hseq])
  exact ⟨_, c, hrun', fun _ => ⟨nextSlot_toNat s, hseq',
    nextSlot_toNat s ▸ (slotPayload_appendSlot mask s).symm⟩⟩

theorem logOk_writeMask (h : LogOk s) (hvalid : s.nvValid = true) (mask : NoteMask) :
    LogOk (writeMask mask s) := by
  by_cases hmask : mask = s.curPay
  · rwa [hmask, writeMask_curPay]
  · rw [writeMask_of_ne hmask]
    exact logOk_appendSlot h hvalid mask

/-- Whatever a torn write leaves in the sequence byte, the other sequence bytes are those from before. -/
theorem slotSeq_tornWrite_torn (mask : NoteMask) (j : Fin 4) (g : Option Byte) (s : State) (k : Nat) :
    slotSeq (tornWrite mask j g s) k =
      if k = (s.curIdx.toNat + 1) % 128 then slotSeq (tornWrite mask j g s) ((s.curIdx.toNat + 1) % 128)
      else slotSeq s k := by
  split
  · rename_i hk; rw [hk]
  · rename_i hk; rw [slotSeq_tornWrite, nextSlot_toNat, if_neg hk]

/-- After a torn write the run ends at the torn slot, where it ended before, or at a slot 0 that stands alone. -/
theorem logOk_tornWrite (h : LogOk s) (hvalid : s.nvValid = true) (mask : NoteMask) (j : Fin 4) (g : Option Byte) :
    LogOk (tornWrite mask j g s) := by
  obtain ⟨b, hrun, -, -⟩ := run_of_logOk h hvalid
  obtain ⟨hnew, hold, hzero, hsame⟩ := run_after_sequence _ hrun (slotSeq_tornWrite_torn mask j g s)
  have hends : ∃ k c, RunEndsAt (tornWrite mask j g s) k c := by
    generalize slotSeq (tornWrite mask j g s) ((s.curIdx.toNat + 1) % 128) = v at hnew hold hzero hsame
    by_cases hv : v = b + BitVec.ofNat 8 s.curIdx.toNat + 1#8
    · obtain ⟨c, hc, -⟩ := hnew hv
      exact ⟨_, c, hc⟩
    · by_cases hlast : s.curIdx.toNat = 127
      · by_cases hb : v = b
        · exact ⟨_, _, hsame hlast hb⟩
        · exact ⟨_, _, hzero hlast hb⟩
      · exact ⟨_, _, hold hv hlast⟩
  obtain ⟨k, c, hc⟩ := hends
  exact ⟨k, c, hc, nofun⟩

theorem logOk_powerFailInPlaceOf (h : LogOk s) (cmd : Word) (j : Fin 4) (g : Option Byte) :
    LogOk (powerFailInPlaceOf cmd j g s) := by
  rcases powerFailInPlaceOf_cases cmd j g s with ⟨i, mask, -, hpending, heq⟩ | ⟨-, heq⟩ <;> rw [heq]
  · obtain ⟨hvalid, -, -⟩ := pendingWrite_eq_some hpending
    exact logOk_tornWrite h hvalid mask j g
  · exact logOk_clearVolatile h

/-- Every completed event keeps the log healthy: a write needs a recovered log, and an event that is no write and
no recovery keeps the medium and the cache. -/
theorem logOk_exec {t : State} {i : Instr} (h : LogOk s) (hexec : exec i s = .next t) : LogOk t := by
  obtain ⟨r, rfl⟩ := eq_answer_effect_of_exec hexec
  have hrecovered : LogOk (recover s) := logOk_recover h
  have hkeeps := effect_keeps_log (i := i) s
  change LogOk (effect i s)
  cases i with
  | nvread | boot => exact hrecovered
  | nvwrite mask => exact logOk_writeMask h (nvValid_of_exec (.inl ⟨mask, rfl⟩) hexec) mask
  | flush =>
    simp only [effect]
    split
    · exact logOk_writeMask h (nvValid_of_exec (.inr rfl) hexec) s.mask
    · exact h
  | reset => exact logOk_clearVolatile h
  | nop | quant | btnstep | ledstep | panstep | tick | rdreg =>
    obtain ⟨hnv, hparams, hcache⟩ := hkeeps nofun nofun nofun
    exact logOk_congr h (nvByte_congr (congrArg _ hparams) hnv) fun _ => hcache nofun nofun

/-- Every step keeps the log healthy, by the stimulus it takes. -/
theorem logOk_step {t : State} (h : LogOk s) (hstep : step s = .next t) : LogOk t := by
  rcases step_cases s with ⟨-, heq⟩ | ⟨x, rest, -, ⟨cmd, i, -, -, heq⟩ | ⟨cmd, e, -, -, heq⟩ | ⟨-, heq⟩ |
    ⟨cmd, j, g, -, heq⟩⟩ <;> rw [heq] at hstep
  · cases hstep; exact h
  · exact logOk_exec (s := { s with inbox := rest }) h hstep
  · cases hstep
  · cases hstep; exact logOk_clearVolatile (s := { s with inbox := rest }) h
  · cases hstep; exact logOk_powerFailInPlaceOf (s := { s with inbox := rest }) h cmd j g

theorem logOk_run {t : State} (n : Nat) (h : LogOk s) (hrun : Sys2Proof.core.run n s = .next t) : LogOk t := by
  induction n generalizing s with
  | zero => cases hrun; exact h
  | succ n ih =>
    simp only [Host.Core.run] at hrun
    split at hrun
    · rename_i u hu; exact ih (logOk_step h hu) hrun
    · cases hrun
    · cases hrun

end Health

/-- A power-on has no valid cache, so its log is healthy exactly when the medium's run is. -/
theorem logOk_powerOn_iff (p : Config.Params) (nv : Memory) (stimuli : List Stimulus) :
    LogOk { State.powerOn p nv with inbox := stimuli } ↔ ∃ k b, RunEndsAt (State.powerOn p nv) k b :=
  ⟨fun ⟨k, b, hrun, _⟩ => ⟨k, b, hrun⟩, fun ⟨k, b, hrun⟩ => ⟨k, b, hrun, nofun⟩⟩

/-- Settles O35: the run of the medium decides at a power-on, and `logOk_step` carries the health on. -/
theorem stepsKeepTheLogHealthy : Obligations.StepsKeepTheLogHealthy :=
  ⟨fun p nv stimuli _ h => (logOk_powerOn_iff p nv stimuli).2 ⟨_, _, runEndsAt_of_equal_bytes h⟩,
    logOk_powerOn_iff, fun _ _ => logOk_step⟩

/-! ### What a reboot recovers (43_persistence_log.md R162) -/

theorem recover_curPay_of_run {s : State} {k : Nat} {b : BitVec 8} (h : RunEndsAt s k b) :
    (recover s).curPay = slotPayload s k := by rw [recover_curPay, currentSlot_of_run h]

/-- On the medium of a healthy log recovery finds the payload its valid cache holds. -/
theorem recover_curPay_of_logOk {s t : State} (h : LogOk s) (hvalid : s.nvValid = true) (hmedium : SameMedium s t) :
    (recover t).curPay = s.curPay := by
  obtain ⟨b, hrun, -, hpay⟩ := run_of_logOk h hvalid
  rw [recover_curPay_of_run (runEndsAt_congr hrun (slotSeq_congr hmedium)), slotPayload_congr hmedium, hpay]

theorem execAll_cons_of_next {i : Instr} {s t : State} (h : exec i s = .next t) (rest : List Instr) :
    execAll (i :: rest) s = execAll rest t := by simp only [execAll, h]

/-- A write and a reboot, event by event. -/
theorem execAll_write_reboot {s : State} (x : NoteMask) (hvalid : s.nvValid = true) :
    ∃ t, SameMedium (writeMask x s) t ∧ execAll [.nvwrite x, .reset, .nvread] s =
      .next (answer (BitVec.ofNat 32 (recover t).curPay.toNat) (recover t)) := by
  refine ⟨answer 0#32 (clearVolatile (answer (bitAt 0 (writeNeeded x s)) (writeMask x s))), nvByte_congr rfl rfl, ?_⟩
  rw [execAll_cons_of_next (exec_nvwrite_of_valid x hvalid), execAll_cons_of_next rfl,
    execAll_cons_of_next (exec_nvread_eq _)]
  rfl

/-- Settles O36: the log is healthy all along the run, the write puts the mask in its cache, and the reboot recovers
what the cache held. -/
theorem writtenMaskSurvivesAReboot : Obligations.WrittenMaskSurvivesAReboot := by
  intro p nv stimuli n s x hmedium hrun hvalid
  have hends : ∃ k b, RunEndsAt (State.powerOn p nv) k b :=
    hmedium.elim (fun ⟨_, h⟩ => ⟨_, _, runEndsAt_of_equal_bytes h⟩) id
  have hlog : LogOk s := logOk_run n ((logOk_powerOn_iff p nv stimuli).2 hends) hrun
  obtain ⟨t, hsame, hall⟩ := execAll_write_reboot x hvalid
  have hpay : (recover t).curPay = x := by
    rw [recover_curPay_of_logOk (logOk_writeMask hlog hvalid x) (by rw [writeMask_frame]; exact hvalid) hsame,
      writeMask_frame]
  exact ⟨_, hall, hpay, by rw [answer_rsp, hpay]⟩

/-! ### What a torn write leaves to recover (43_persistence_log.md R163, 60_exceptions.md R220) -/

section Torn

variable {s : State} {mask : NoteMask} {j : Fin 4} {g : Option Byte}

theorem pendingWrite_of_changed {i : Instr} (hvalid : s.nvValid = true) (hne : mask ≠ s.curPay)
    (hi : i = .nvwrite mask ∨ (i = .flush ∧ s.saveEl = true ∧ s.mask = mask)) : pendingWrite i s = some mask := by
  obtain rfl | ⟨rfl, helapsed, rfl⟩ := hi
  · exact if_pos (by rw [hvalid, writeNeeded_of_ne hne]; rfl)
  · exact if_pos (by rw [hvalid, helapsed, writeNeeded_of_ne hne]; rfl)

/-- Power failing in place of an event that would write tears that write. -/
theorem step_eq_tornWrite {t : State} {cmd : Word} {rest : List Stimulus}
    (hinbox : s.inbox = .powerFailDuring cmd j g :: rest) (hvalid : s.nvValid = true) (hne : mask ≠ s.curPay)
    (hcmd : decode cmd = .ok (.nvwrite mask) ∨ (decode cmd = .ok .flush ∧ s.saveEl = true ∧ s.mask = mask))
    (hstep : step s = .next t) : t = tornWrite mask j g { s with inbox := rest } := by
  obtain ⟨i, hdec, hi⟩ : ∃ i, decode cmd = .ok i ∧
      (i = .nvwrite mask ∨ (i = .flush ∧ s.saveEl = true ∧ s.mask = mask)) := by
    rcases hcmd with hdec | ⟨hdec, hflush⟩
    · exact ⟨_, hdec, .inl rfl⟩
    · exact ⟨_, hdec, .inr ⟨rfl, hflush⟩⟩
  have hpending : pendingWrite i { s with inbox := rest } = some mask := pendingWrite_of_changed hvalid hne hi
  simp only [step, takeStimulus_cons hinbox, powerFailInPlaceOf, hdec, hpending] at hstep
  cases hstep
  rfl

/-- A run that still ends at the old slot recovers the old payload. -/
theorem recover_tornWrite_of_old_run {c : BitVec 8} (hpay : s.curPay = slotPayload s s.curIdx.toNat)
    (hrun : RunEndsAt (tornWrite mask j g s) s.curIdx.toNat c) :
    (recover (tornWrite mask j g s)).curPay = s.curPay := by
  have hother : s.curIdx.toNat ≠ (nextSlot s).toNat := by rw [nextSlot_toNat]; omega
  rw [recover_curPay_of_run hrun, slotPayload_tornWrite_other mask j g hother, hpay]

/-- A run that ends at the torn slot recovers the new payload, once its two bytes are written. -/
theorem recover_tornWrite_of_new_run {c : BitVec 8} (hj : 2 ≤ j.val)
    (hrun : RunEndsAt (tornWrite mask j g s) ((s.curIdx.toNat + 1) % 128) c) :
    (recover (tornWrite mask j g s)).curPay = mask := by
  rw [recover_curPay_of_run hrun, ← nextSlot_toNat, slotPayload_tornWrite_written mask j g s hj]

theorem slotSeq_tornWrite_untouched (h : j.val ≤ 1 ∨ (j.val = 2 ∧ g = none)) (k : Nat) :
    slotSeq (tornWrite mask j g s) k = slotSeq s k := by
  rw [slotSeq_tornWrite]
  split
  · rcases h with hj | ⟨hj, rfl⟩
    · rw [if_neg (by omega), if_neg (by omega)]
    · rw [if_neg (by omega), if_pos hj, Option.getD_none]
  · rfl

theorem slotSeq_tornWrite_intended (h : j.val = 3 ∨ (j.val = 2 ∧ g = some (s.curSeq + 1#8))) (k : Nat) :
    slotSeq (tornWrite mask j g s) k =
      if k = (s.curIdx.toNat + 1) % 128 then s.curSeq + 1#8 else slotSeq s k := by
  rw [slotSeq_tornWrite, nextSlot_toNat]
  rcases h with hj | ⟨hj, rfl⟩ <;> simp [hj]

theorem slotSeq_tornWrite_garbage {v : Byte} (hj : j.val = 2) (k : Nat) :
    slotSeq (tornWrite mask j (some v) s) k =
      if k = (s.curIdx.toNat + 1) % 128 then v else slotSeq s k := by
  simp [slotSeq_tornWrite, nextSlot_toNat, hj]

/-- Before SEQ the run is the old one. -/
theorem recover_tornWrite_untouched (h : LogOk s) (hvalid : s.nvValid = true)
    (hseq : j.val ≤ 1 ∨ (j.val = 2 ∧ g = none)) : (recover (tornWrite mask j g s)).curPay = s.curPay := by
  obtain ⟨b, hrun, -, hpay⟩ := run_of_logOk h hvalid
  exact recover_tornWrite_of_old_run hpay (runEndsAt_congr hrun (slotSeq_tornWrite_untouched hseq))

/-- With the intended value in SEQ the run ends at the new slot. -/
theorem recover_tornWrite_intended (h : LogOk s) (hvalid : s.nvValid = true)
    (hseq : j.val = 3 ∨ (j.val = 2 ∧ g = some (s.curSeq + 1#8))) :
    (recover (tornWrite mask j g s)).curPay = mask := by
  obtain ⟨b, hrun, hb, -⟩ := run_of_logOk h hvalid
  obtain ⟨c, hc, -⟩ := (run_after_sequence _ hrun (slotSeq_tornWrite_intended hseq)).1 (by rw [hb])
  exact recover_tornWrite_of_new_run (by omega) hc

/-- A wrong value in the SEQ of a slot past slot 0 leaves the old run. -/
theorem recover_tornWrite_wrong {v : Byte} (h : LogOk s) (hvalid : s.nvValid = true) (hj : j.val = 2)
    (hlast : s.curIdx.toNat ≠ 127) (hv : v ≠ s.curSeq + 1#8) :
    (recover (tornWrite mask j (some v) s)).curPay = s.curPay := by
  obtain ⟨b, hrun, hb, hpay⟩ := run_of_logOk h hvalid
  obtain ⟨-, hold, -, -⟩ := run_after_sequence v hrun (slotSeq_tornWrite_garbage hj)
  exact recover_tornWrite_of_old_run hpay (hold (by rwa [← hb]) hlast)

theorem slotSeq_zero_of_run {k : Nat} {b : BitVec 8} (h : RunEndsAt s k b) : slotSeq s 0 = b := by
  simpa using h.2.1 0 (Nat.zero_le k)

/-- The old value in the SEQ of slot 0 leaves the old run, round the whole ring. -/
theorem recover_tornWrite_slot_zero_same {v : Byte} (h : LogOk s) (hvalid : s.nvValid = true) (hj : j.val = 2)
    (hlast : s.curIdx.toNat = 127) (hv : v = slotSeq s 0) :
    (recover (tornWrite mask j (some v) s)).curPay = s.curPay := by
  obtain ⟨b, hrun, -, hpay⟩ := run_of_logOk h hvalid
  obtain ⟨-, -, -, hsame⟩ := run_after_sequence v hrun (slotSeq_tornWrite_garbage hj)
  exact recover_tornWrite_of_old_run hpay (hsame hlast (hv.trans (slotSeq_zero_of_run hrun)))

/-- Any other value in the SEQ of slot 0 cuts the run to slot 0, which holds the new mask
(notes/assumptions/14.md). -/
theorem run_tornWrite_slot_zero {v : Byte} (h : LogOk s) (hvalid : s.nvValid = true) (hj : j.val = 2)
    (hlast : s.curIdx.toNat = 127) (hv : v ≠ slotSeq s 0) : RunEndsAt (tornWrite mask j (some v) s) 0 v := by
  obtain ⟨b, hrun, -, -⟩ := run_of_logOk h hvalid
  obtain ⟨-, -, hzero, -⟩ := run_after_sequence v hrun (slotSeq_tornWrite_garbage hj)
  exact hzero hlast (slotSeq_zero_of_run hrun ▸ hv)

theorem recover_tornWrite_slot_zero {v : Byte} (h : LogOk s) (hvalid : s.nvValid = true) (hj : j.val = 2)
    (hlast : s.curIdx.toNat = 127) (hv : v ≠ slotSeq s 0) :
    (recover (tornWrite mask j (some v) s)).curPay = mask := by
  have hzero : (s.curIdx.toNat + 1) % 128 = 0 := by rw [hlast]
  exact recover_tornWrite_of_new_run hj.ge (hzero ▸ run_tornWrite_slot_zero h hvalid hj hlast hv)

/-- Never a mixture: by the byte writes done, the value left in SEQ, and the torn slot. -/
theorem recover_tornWrite_old_or_new (h : LogOk s) (hvalid : s.nvValid = true) (mask : NoteMask) (j : Fin 4)
    (g : Option Byte) : (recover (tornWrite mask j g s)).curPay = s.curPay ∨
      (recover (tornWrite mask j g s)).curPay = mask := by
  obtain hj | hj | hj : j.val ≤ 1 ∨ j.val = 2 ∨ j.val = 3 := by omega
  · exact .inl (recover_tornWrite_untouched h hvalid (.inl hj))
  · cases g with
    | none => exact .inl (recover_tornWrite_untouched h hvalid (.inr ⟨hj, rfl⟩))
    | some v =>
      by_cases hlast : s.curIdx.toNat = 127
      · by_cases hv : v = slotSeq s 0
        · exact .inl (recover_tornWrite_slot_zero_same h hvalid hj hlast hv)
        · exact .inr (recover_tornWrite_slot_zero h hvalid hj hlast hv)
      · by_cases hv : v = s.curSeq + 1#8
        · exact .inr (recover_tornWrite_intended h hvalid (.inr ⟨hj, congrArg some hv⟩))
        · exact .inl (recover_tornWrite_wrong h hvalid hj hlast hv)
  · exact .inr (recover_tornWrite_intended h hvalid (.inl hj))

end Torn

/-- Settles O37: the step tears the write, and each clause is the recovery of one kind of torn write. -/
theorem tornWriteRecoversOldOrNewMask : Obligations.TornWriteRecoversOldOrNewMask := by
  intro s t u cmd j g rest mask h hinbox hvalid hne hcmd hstep hread
  obtain rfl := step_eq_tornWrite hinbox hvalid hne hcmd hstep
  rw [exec_nvread_eq] at hread
  obtain rfl := Host.Outcome.next.inj hread
  have hlog : LogOk { s with inbox := rest } := h
  rw [answer_curPay]
  refine ⟨recover_tornWrite_old_or_new hlog hvalid mask j g, recover_tornWrite_untouched hlog hvalid,
    fun hj hlast hg => ?_, fun hseq => recover_tornWrite_intended hlog hvalid hseq⟩
  cases g with
  | none => exact recover_tornWrite_untouched hlog hvalid (.inr ⟨hj, rfl⟩)
  | some v => exact recover_tornWrite_wrong hlog hvalid hj hlast fun hv => hg (congrArg some hv)

/-- Settles O38: the walk ends at slot 0 at once. -/
theorem tornSequenceOfSlotZeroRecoversTheNewMask : Obligations.TornSequenceOfSlotZeroRecoversTheNewMask := by
  intro s t u cmd g rest mask h hinbox hvalid hne hcmd hlast hold _ hstep hread
  obtain rfl := step_eq_tornWrite hinbox hvalid hne hcmd hstep
  rw [exec_nvread_eq] at hread
  obtain rfl := Host.Outcome.next.inj hread
  have hlog : LogOk { s with inbox := rest } := h
  have hslot := currentSlot_of_run (run_tornWrite_slot_zero (mask := mask) (j := 2) hlog hvalid rfl hlast hold)
  rw [answer_curPay, answer_curIdx, recover_curIdx, hslot]
  exact ⟨recover_tornWrite_slot_zero hlog hvalid rfl hlast hold, rfl⟩

end Sys2Proof.Proofs

/-! PROOFS. The Sample Pipeline (spec/44_sample_pipeline.md): the timers (R180, R181), what steps 1 to 6 of a tick do
on each of their ways (R171 to R178), TICK (R172 to R179, R182, R183, R186), FLUSH (R185), and the autosave countdown
from a touch to the written slot (R187). -/

namespace Sys2Proof.Proofs

open Sys2Proof.Machine Sys2Proof.Safety

/-! ### The timers (44_sample_pipeline.md R180, R181) -/

theorem tickTimer_running_of_ne_one {cnt : BitVec 32} (h : cnt ≠ 1#32) :
    tickTimer cnt .running = ⟨cnt - 1#32, .running, false⟩ := by
  rcases tickTimer_cases cnt .running with ⟨-, -, heq⟩ | ⟨-, hone, -⟩ | ⟨hst, -⟩
  · exact heq
  · exact absurd hone h
  · exact absurd rfl hst

/-- Before its last call a started timer runs, less one for each call. -/
theorem tickTimes_of_lt {n : BitVec 32} {k : Nat} (h : k < n.toNat) :
    tickTimes k n .running = ⟨BitVec.ofNat 32 (n.toNat - k), .running, false⟩ := by
  induction k with
  | zero => simp [tickTimes]
  | succ k ih =>
    have hne : BitVec.ofNat 32 (n.toNat - k) ≠ 1#32 := by bv_omega
    have hsub : BitVec.ofNat 32 (n.toNat - k) - 1#32 = BitVec.ofNat 32 (n.toNat - (k + 1)) := by bv_omega
    rw [tickTimes, ih (by omega), tickTimer_running_of_ne_one hne, hsub]

theorem tickTimes_self {n : BitVec 32} (h : 1 ≤ n.toNat) : tickTimes n.toNat n .running = ⟨0#32, .expired, true⟩ := by
  obtain ⟨k, hk⟩ := Nat.exists_eq_add_of_le' h
  have hone : n.toNat - k = 1 := by omega
  rw [hk, tickTimes, tickTimes_of_lt (by omega), hone]
  rfl

/-- An expired timer is idle from its next call on. -/
theorem tickTimes_add_one_of_ge {n : BitVec 32} {k : Nat} (h : 1 ≤ n.toNat) (hk : n.toNat ≤ k) :
    tickTimes (k + 1) n .running = ⟨0#32, .idle, false⟩ := by
  induction k, hk using Nat.le_induction with
  | base => rw [tickTimes, tickTimes_self h]; rfl
  | succ k _ ih => rw [tickTimes, ih]; rfl

/-- Settles O39: before, at and after the call that takes the counter to 0. -/
theorem timerExpiresAtTheNthTick : Obligations.TimerExpiresAtTheNthTick := by
  intro n k hn
  refine ⟨fun _ hlt => tickTimes_of_lt hlt, tickTimes_self hn, fun hgt => ?_⟩
  obtain ⟨j, rfl⟩ := Nat.exists_eq_add_of_lt hgt
  exact tickTimes_add_one_of_ge hn (Nat.le_add_right _ _)

/-- A started timer reports its expiry at the `n`-th of its first `n` calls. -/
theorem tickTimes_expired {n : BitVec 32} {k : Nat} (hk : 1 ≤ k) (hkn : k ≤ n.toNat) :
    (tickTimes k n .running).expired = decide (k = n.toNat) := by
  rcases hkn.lt_or_eq with hlt | rfl
  · rw [tickTimes_of_lt hlt, decide_eq_false hlt.ne]
  · rw [tickTimes_self hk, decide_eq_true rfl]

/-! ### The ways through a tick (44_sample_pipeline.md R171 to R178, R184) -/

section Tick

variable {sample : Sample} {gc gt : Bool} {s : State} {p : Int}

theorem exec_tick_of_le (gc gt : Bool) (h : sample.toNat ≤ adcMax s.params) :
    ∃ r, exec (.tick sample gc gt) s = .next (answer r (tickState sample gc gt s)) :=
  ⟨_, execTick_next_iff.2 ⟨h, rfl⟩⟩

/-- The accumulator of the filter stays within 32 bits. -/
theorem adcMax_mul_lt {q : Config.Params} (h : Legal q) : adcMax q * 2 ^ q.filterK < 2 ^ 32 := by
  calc adcMax q * 2 ^ q.filterK < 2 ^ q.adcBits * 2 ^ q.filterK :=
        Nat.mul_lt_mul_of_pos_right (Nat.sub_lt (by positivity) one_pos) (by positivity)
    _ = 2 ^ (q.adcBits + q.filterK) := (Nat.pow_add ..).symm
    _ ≤ 2 ^ 32 := Nat.pow_le_pow_right (by decide) h.filter.2

theorem adcMax_lt {q : Config.Params} (h : Legal q) : adcMax q < 2 ^ 16 :=
  calc adcMax q < 2 ^ q.adcBits := Nat.sub_lt (by positivity) one_pos
    _ ≤ 2 ^ 16 := Nat.pow_le_pow_right (by decide) h.adcBits.2

/-- For legal parameters and a sample in range the filter's step does not wrap. -/
theorem filterNext_toNat {q : Config.Params} {acc : BitVec 32} (h : Legal q)
    (hacc : acc.toNat ≤ adcMax q * 2 ^ q.filterK) (hsample : sample.toNat ≤ adcMax q) :
    (filterNext q.filterK acc sample).toNat = acc.toNat - acc.toNat / 2 ^ q.filterK + sample.toNat := by
  rw [filterNext, BitVec.toNat_ofNat]
  exact Nat.mod_eq_of_lt ((filter_step_le hacc hsample (by positivity)).trans_lt (adcMax_mul_lt h))

theorem tickState_filtAcc (sample : Sample) (gc gt : Bool) (s : State) :
    (tickState sample gc gt s).filtAcc = filterNext s.params.filterK s.filtAcc sample := by rw [tickState_frame]

theorem tickState_touch (sample : Sample) (gc gt : Bool) (s : State) :
    (tickState sample gc gt s).touch = false := by rw [tickState_frame]

/-- The poll of step 3 leaves the autosave timer and SAVEEL to step 8; no step between writes them. -/
theorem tickFront_autosave (sample : Sample) (gc gt : Bool) (s : State) :
    (tickFront sample gc gt s).1.saveCnt = (if s.touch then s.params.autosaveTicks else s.saveCnt) ∧
    (tickFront sample gc gt s).1.saveSt = (if s.touch then .running else s.saveSt) ∧
    (tickFront sample gc gt s).1.saveEl = (s.saveEl && !s.touch) := by
  rw [tickFront_eq, tickPitch_saveCnt, tickPitch_saveSt, tickPitch_saveEl]
  exact ⟨tickPoll_saveCnt _, tickPoll_saveSt _, tickPoll_saveEl _⟩

theorem tickFront_of_mask_zero (gc gt : Bool) (hmask : s.mask = 0#12) :
    tickFront sample gc gt s = (tickSilence (polled sample s), false) := by
  simp [tickFront_eq, tickPitch, hmask]

theorem tickFront_of_not_running (hmask : s.mask ≠ 0#12) (hrun : running gc gt = false) :
    tickFront sample gc gt s = (polled sample s, false) := by
  simp [tickFront_eq, tickPitch, hmask, hrun]

theorem tickFront_of_running (hmask : s.mask ≠ 0#12) (hrun : running gc gt = true) :
    tickFront sample gc gt s = tickQuantize (filtered (polled sample s)) (polled sample s) := by
  simp [tickFront_eq, tickPitch, hmask, hrun]

/-- The poll of step 3 leaves the deadband and its memory. -/
theorem inDeadband_polled (f : Nat) (sample : Sample) (s : State) :
    inDeadband f (polled sample s) = inDeadband f s := by simp [inDeadband]

theorem acceptedCode_polled (f : Nat) (sample : Sample) (s : State) :
    acceptedCode f (polled sample s) = acceptedCode f s := by simp [acceptedCode, inDeadband_polled]

/-- A pitch is not new exactly when it is the one emitted last. -/
theorem pitchIsNew_polled (p : Int) (sample : Sample) (s : State) :
    pitchIsNew p (polled sample s) = decide ¬ (s.emitValid = true ∧ s.prevEmit.toInt = p) := by
  rw [pitchIsNew, tickPoll_emitValid, tickPoll_prevEmit, tickFilter_emitValid, tickFilter_prevEmit]
  cases s.emitValid <;> simp [eq_comm]

/-- A running tick whose accepted code has the pitch `p` begins an output exactly when `p` is not the pitch emitted
last. -/
theorem tickFront_of_pitch (hmask : s.mask ≠ 0#12) (hrun : running gc gt = true)
    (hp : quantizeQ8 s.mask (pt1 s.params (acceptedCode (filtered (polled sample s)) s)) = some p) :
    tickFront sample gc gt s =
      if s.emitValid = true ∧ s.prevEmit.toInt = p then
        (tickAccept (filtered (polled sample s)) (polled sample s), false)
      else (emitPitch p (tickAccept (filtered (polled sample s)) (polled sample s)), true) := by
  have hq : quantize (polled sample s).params (polled sample s).mask
      (acceptedCode (filtered (polled sample s)) (polled sample s)) = some p := by
    rw [acceptedCode_polled, tickPoll_params, tickPoll_mask]
    exact hp
  rw [tickFront_of_running hmask hrun, tickQuantize_of_some hq, pitchIsNew_polled]
  by_cases hold : s.emitValid = true ∧ s.prevEmit.toInt = p <;> simp [hold]

/-- New or not, that pitch is the one emitted last after the tick, and step 5 has kept the accepted code. -/
theorem tickState_emitted (hmask : s.mask ≠ 0#12) (hrun : running gc gt = true)
    (hp : quantizeQ8 s.mask (pt1 s.params (acceptedCode (filtered (polled sample s)) s)) = some p) :
    (tickState sample gc gt s).emitValid = true ∧ (tickState sample gc gt s).prevEmit.toInt = p ∧
      (tickState sample gc gt s).prevAcc = (tickAccept (filtered (polled sample s)) (polled sample s)).prevAcc := by
  rw [tickState, tickFront_of_pitch hmask hrun hp]
  split
  case isTrue hold => simpa using hold
  case isFalse =>
    obtain ⟨hlow, hhigh⟩ := quantizeQ8_pt1_bounds hp
    have hfits : (BitVec.ofInt 16 p).toInt = p := toInt_ofInt_of_fits (by omega) (by omega)
    simp [hfits]

theorem tickAccept_of_inDeadband {f : Nat} (h : inDeadband f s = true) : tickAccept f s = s := if_pos h

theorem acceptedCode_of_inDeadband {f : Nat} (h : inDeadband f s = true) : acceptedCode f s = s.prevAcc.toNat :=
  if_pos h

/-- Step 5 keeps the accepted code in PREVACC, where the filtered sample fits it. -/
theorem tickAccept_prevAcc_toNat {f : Nat} (hf : f < 2 ^ 16) :
    (tickAccept f s).prevAcc.toNat = acceptedCode f s := by
  rw [tickAccept_prevAcc, acceptedCode]
  split
  · rfl
  · exact Nat.mod_eq_of_lt hf

theorem acceptedCode_eq (f : Nat) (s : State) :
    acceptedCode f s =
      if ((f : Int) - s.prevAcc.toNat).natAbs < s.params.deadband then s.prevAcc.toNat else f := by
  simp [acceptedCode, inDeadband]

theorem getLsbD_tickResponse_begun (s : State) (begun ended elapsed : Bool) :
    (tickResponse s begun ended elapsed).getLsbD 17 = begun := by
  have hbit (k : Nat) (b : Bool) : bitAt k b = fieldAt k (BitVec.ofBool b) := rfl
  simp only [tickResponse, hbit, BitVec.getLsbD_or, getLsbD_fieldAt]
  simp

/-- With the pitch of PREVACC emitted last, steps 4 to 6 of a tick inside the deadband do nothing. -/
theorem tickFront_of_inDeadband (hmask : s.mask ≠ 0#12)
    (hp : quantizeQ8 s.mask (pt1 s.params s.prevAcc.toNat) = some p) (hvalid : s.emitValid = true)
    (hemit : s.prevEmit.toInt = p) (hdead : inDeadband (filtered (polled sample s)) s = true) :
    tickFront sample gc gt s = (polled sample s, false) := by
  cases hrun : running gc gt with
  | false => exact tickFront_of_not_running hmask hrun
  | true =>
    rw [← acceptedCode_of_inDeadband hdead] at hp
    rw [tickFront_of_pitch hmask hrun hp, if_pos ⟨hvalid, hemit⟩,
      tickAccept_of_inDeadband ((inDeadband_polled _ sample s).trans hdead)]

end Tick

/-! ### TICK (44_sample_pipeline.md R172 to R179, R182, R183, R186) -/

/-- Settles O40: the filter's own step, and the frame of the whole tick. -/
theorem tickFiltersEverySample : Obligations.TickFiltersEverySample := by
  intro s sample gc gt hlegal hacc hsample
  obtain ⟨r, hexec⟩ := exec_tick_of_le gc gt hsample
  have hbound := filterNext_le hacc hsample
  have hframe := tickState_frame sample gc gt s
  refine ⟨_, hexec, ?_⟩
  rw [answer_filtAcc, tickState_filtAcc, answer_touch, tickState_touch]
  refine ⟨filterNext_toNat hlegal hacc hsample, hbound, Nat.div_le_of_le_mul (by rwa [Nat.mul_comm]),
    congrArg (answer r) hframe, nvByte_congr ?_ ?_⟩ <;> rw [hframe] <;> rfl

/-- Settles O41: step 8 ticks the timer that the poll left. -/
theorem tickDrivesTheAutosaveTimer : Obligations.TickDrivesTheAutosaveTimer := by
  intro s t sample gc gt h
  obtain ⟨-, rfl⟩ := execTick_next_iff.1 h
  obtain ⟨hcnt, hst, hel⟩ := tickFront_autosave sample gc gt s
  refine ⟨tickState_touch sample gc gt s, ?_⟩
  rintro _ rfl
  rw [← hcnt, ← hst, ← hel]
  exact ⟨rfl, rfl, rfl⟩

/-- Settles O42: step 4 silences the output, and step 7 ticks the gate timer. -/
theorem emptyMaskTickSilencesTheOutput : Obligations.EmptyMaskTickSilencesTheOutput := by
  intro s sample gc gt hsample hmask
  obtain ⟨r, hexec⟩ := exec_tick_of_le gc gt hsample
  refine ⟨_, _, hexec, rfl, ?_⟩
  simp [tickState, tickFront_of_mask_zero gc gt hmask]

/-- Settles O43: steps 4 to 6 do nothing, and step 7 ticks the gate timer. -/
theorem tickWithoutTriggerHoldsTheOutput : Obligations.TickWithoutTriggerHoldsTheOutput := by
  intro s sample hsample hmask
  obtain ⟨r, hexec⟩ := exec_tick_of_le true false hsample
  have hrun : running true false = false := rfl
  refine ⟨_, _, hexec, rfl, ?_⟩
  simp [tickState, tickFront_of_not_running hmask hrun]

/-- Settles O44: the accepted code has a pitch (O17), which is the one emitted last or a new one; the code and the
note are those of the emitted pitch by the invariants after the tick. -/
theorem runningTickEmitsANewPitch : Obligations.RunningTickEmitsANewPitch := by
  intro s sample gc gt h hsample hmask hgate
  have hrun : running gc gt = true := by rcases hgate with rfl | rfl <;> simp [running]
  obtain ⟨r, hexec⟩ := exec_tick_of_le gc gt hsample
  have hafter := inv_tickState h hsample gc gt
  have hpolled : Inv (polled sample s) := inv_tickPoll (inv_tickFilter h hsample)
  have hfits : filtered (polled sample s) < 2 ^ 16 :=
    (filtered_le hpolled.filter).trans_lt (adcMax_lt hpolled.legal)
  have hsome := (quantizerHasAValueExactlyOnNonemptyMasks s.mask
    (pt1 s.params (acceptedCode (filtered (polled sample s)) s))).2 hmask
  obtain ⟨p, hp⟩ := Option.isSome_iff_exists.1 hsome
  have hfront := tickFront_of_pitch hmask hrun hp
  obtain ⟨hvalid, hemit, hacc⟩ := tickState_emitted hmask hrun hp
  have hprev : (tickState sample gc gt s).prevAcc.toNat = acceptedCode (filtered (polled sample s)) s := by
    rw [hacc, tickAccept_prevAcc_toNat hfits, acceptedCode_polled]
  have hcode := hafter.code hvalid
  have hsound := hafter.sounding hvalid
  rw [hemit] at hcode hsound
  refine ⟨_, filtered (polled sample s), _, p,
    tickTimer (tickFront sample gc gt s).1.gateCnt (tickFront sample gc gt s).1.gateSt, hexec, ?_, acceptedCode_eq _ s,
    hprev, hp, hvalid, hemit, hcode, hsound, fun hold => ?_, fun hnew => ?_, rfl, rfl⟩
  · rw [answer_filtAcc, tickState_filtAcc, filtered_polled]
  · simp [tickState, hfront, hold]
  · simp [tickState, hfront, hnew]

/-- Settles O46: steps 4 to 6 do nothing, so the tick is the filter, the poll and the two timers. -/
theorem deadbandHoldsThePitch : Obligations.DeadbandHoldsThePitch := by
  intro s t sample gc gt p _ hmask hp hvalid hemit hdead h
  rw [← filtered_polled] at hdead
  obtain ⟨-, rfl⟩ := execTick_next_iff.1 h
  rw [tickState, tickFront_of_inDeadband hmask hp hvalid hemit (decide_eq_true hdead)]
  refine ⟨by simp, by simp, by simp, by simp, by simpa using hvalid, ?_, _, rfl, getLsbD_tickResponse_begun ..⟩
  rintro _ rfl
  simp

/-! ### FLUSH (44_sample_pipeline.md R185) -/

section Flush

variable {s : State}

theorem exec_flush_of_not_elapsed (hvalid : s.nvValid = true) (helapsed : s.saveEl = false) :
    exec .flush s = .next { s with rsp := some 0#32 } :=
  (if_pos hvalid).trans (if_neg (Bool.eq_false_iff.1 helapsed))

/-- A mask write leaves the mask as the current payload, written or suppressed. -/
theorem writeMask_log (mask : NoteMask) (s : State) :
    (writeMask mask s).curPay = mask ∧ (writeMask mask s).nvValid = s.nvValid := by
  rw [writeMask_frame]; exact ⟨rfl, rfl⟩

theorem flushResponse_elapsed (mask : NoteMask) (s : State) :
    flushResponse true (writeNeeded mask s) = if mask = s.curPay then 2#32 else 3#32 := by
  by_cases h : mask = s.curPay
  · rw [if_pos h, h, writeNeeded_curPay]; rfl
  · rw [if_neg h, writeNeeded_of_ne h]; rfl

end Flush

/-- Settles O34: both events do the one mask write, and the cleared flag idles the next FLUSH. -/
theorem flushWritesTheMaskExactlyOnce : Obligations.FlushWritesTheMaskExactlyOnce := by
  intro s hvalid
  refine ⟨exec_flush_of_not_elapsed hvalid, fun helapsed => ?_⟩
  obtain ⟨hpay, hkept⟩ := writeMask_log s.mask s
  refine ⟨_, _, exec_nvwrite_of_valid s.mask hvalid, exec_flush_of_elapsed hvalid helapsed, ?_, hpay,
    exec_flush_of_not_elapsed (hkept.trans hvalid) rfl⟩
  rw [flushResponse_elapsed]
  rfl

/-! ### The autosave countdown (44_sample_pipeline.md R187) -/

/-- The autosave timer `k` ticks after the touch that started it, with no further touch since. -/
structure CountedDown (k : Nat) (s : State) : Prop where
  untouched : s.touch = false
  cnt : s.saveCnt = (tickTimes k s.params.autosaveTicks .running).cnt
  st : s.saveSt = (tickTimes k s.params.autosaveTicks .running).st
  elapsed : s.saveEl = (tickTimes k s.params.autosaveTicks .running).expired

section Countdown

variable {sample : Sample} {gc gt : Bool} {s t : State} {k : Nat}

/-- A completed tick writes neither the mask nor the parameters nor NVVALID. -/
theorem tick_keeps (h : exec (.tick sample gc gt) s = .next t) :
    t.mask = s.mask ∧ t.params = s.params ∧ t.nvValid = s.nvValid := by
  obtain ⟨-, rfl⟩ := execTick_next_iff.1 h
  rw [tickState_frame]
  exact ⟨rfl, rfl, rfl⟩

/-- The tick that takes the touch is the first call of the timer it starts. -/
theorem countedDown_of_touch (htouch : s.touch = true) (h : exec (.tick sample gc gt) s = .next t) :
    CountedDown 1 t := by
  obtain ⟨-, hparams, -⟩ := tick_keeps h
  obtain ⟨huntouched, htimer⟩ := tickDrivesTheAutosaveTimer s t sample gc gt h
  obtain ⟨hcnt, hst, hel⟩ := htimer _ rfl
  simp only [htouch, if_true, Bool.not_true, Bool.and_false, Bool.false_or] at hcnt hst hel
  exact ⟨huntouched, by rw [hcnt, hparams]; rfl, by rw [hst, hparams]; rfl, by rw [hel, hparams]; rfl⟩

/-- A later tick, with the countdown not at its end, is the next call. -/
theorem countedDown_tick (hcount : CountedDown k s) (hk : 1 ≤ k) (hlt : k < s.params.autosaveTicks.toNat)
    (h : exec (.tick sample gc gt) s = .next t) : CountedDown (k + 1) t := by
  obtain ⟨-, hparams, -⟩ := tick_keeps h
  obtain ⟨huntouched, htimer⟩ := tickDrivesTheAutosaveTimer s t sample gc gt h
  obtain ⟨hcnt, hst, hel⟩ := htimer _ rfl
  have hnot : s.saveEl = false := by rw [hcount.elapsed, tickTimes_expired hk hlt.le, decide_eq_false hlt.ne]
  simp only [hcount.untouched, hcount.cnt, hcount.st, hnot, Bool.false_and, Bool.false_or] at hcnt hst hel
  exact ⟨huntouched, by rw [hcnt, hparams]; rfl, by rw [hst, hparams]; rfl, by rw [hel, hparams]; rfl⟩

/-- Ticks in a row complete and count the timer down, as far as it goes. -/
theorem execAll_ticks_countedDown (ticks : List (Sample × Bool × Bool)) (hcount : CountedDown k s) (hk : 1 ≤ k)
    (hrange : ∀ x ∈ ticks, x.1.toNat ≤ adcMax s.params)
    (hlen : k + ticks.length ≤ s.params.autosaveTicks.toNat) :
    ∃ t, execAll (ticks.map fun x => .tick x.1 x.2.1 x.2.2) s = .next t ∧ CountedDown (k + ticks.length) t ∧
      t.mask = s.mask ∧ t.params = s.params ∧ t.nvValid = s.nvValid := by
  induction ticks generalizing s k with
  | nil => exact ⟨s, rfl, hcount, rfl, rfl, rfl⟩
  | cons x rest ih =>
    obtain ⟨hx, hrest⟩ := List.forall_mem_cons.1 hrange
    rw [List.length_cons] at hlen
    obtain ⟨r, hexec⟩ := exec_tick_of_le x.2.1 x.2.2 hx
    obtain ⟨hmask, hparams, hvalid⟩ := tick_keeps hexec
    obtain ⟨t, hall, hend, hmask', hparams', hvalid'⟩ := ih (countedDown_tick hcount hk (by omega) hexec) (by omega)
      (hparams ▸ hrest) (by rw [hparams]; omega)
    refine ⟨t, (execAll_cons_of_next hexec _).trans hall, ?_, hmask'.trans hmask, hparams'.trans hparams,
      hvalid'.trans hvalid⟩
    rwa [List.length_cons, Nat.add_comm rest.length, ← Nat.add_assoc]

end Countdown

/-- Settles O47: the first tick starts the countdown, the others run it down, and the FLUSH at its end does the
mask write. -/
theorem autosaveElapsesAfterItsExactCountdown : Obligations.AutosaveElapsesAfterItsExactCountdown := by
  intro s ticks _ htouch hrange hpos hlen
  obtain ⟨x, rest, rfl⟩ := List.exists_cons_of_length_pos hpos
  obtain ⟨hx, hrest⟩ := List.forall_mem_cons.1 hrange
  rw [List.length_cons] at hlen
  obtain ⟨r, hexec⟩ := exec_tick_of_le x.2.1 x.2.2 hx
  obtain ⟨hmask, hparams, hvalid⟩ := tick_keeps hexec
  obtain ⟨t, hall, hend, hmask', hparams', hvalid'⟩ := execAll_ticks_countedDown rest
    (countedDown_of_touch htouch hexec) le_rfl (hparams ▸ hrest) (by rw [hparams]; omega)
  have helapsed : t.saveEl = decide ((x :: rest).length = s.params.autosaveTicks.toNat) := by
    rw [hend.elapsed, hparams', hparams, tickTimes_expired (by omega) (by omega), List.length_cons, Nat.add_comm]
  refine ⟨t, (execAll_cons_of_next hexec _).trans hall, helapsed, fun hfull hnv => ?_⟩
  have hflush := exec_flush_of_elapsed ((hvalid'.trans hvalid).trans hnv) (helapsed.trans (decide_eq_true hfull))
  exact ⟨_, hflush, rfl, (writeMask_log t.mask t).1.trans (hmask'.trans hmask)⟩

end Sys2Proof.Proofs

/-! PROOFS. The system commands (spec/45_system_commands.md): NOP and the words beside it (R200), and BOOT as a recovery
with the load of MASK (R202). -/

namespace Sys2Proof.Proofs

open Sys2Proof.Machine

/-! ### NOP (45_system_commands.md R200) -/

/-- Opcode 0 is NOP's alone, and format Z reserves all of `CMD[27:0]`. -/
theorem decode_eq_reservedField_of_lt {w : Word} (hne : w ≠ 0#32) (hlt : w.toNat < 2 ^ 28) :
    decode w = .error .reservedField := by
  have hop : (opField w).toNat = 0 := by rw [opField_toNat, Nat.div_eq_of_lt hlt]
  have hreserved : w &&& Format.z.reserved ≠ 0#32 := by
    intro hzero
    rw [and_reserved_eq_zero_iff, reservedPlace, pow_zero, Nat.div_one, Nat.mod_eq_of_lt hlt] at hzero
    exact hne (BitVec.eq_of_toNat_eq hzero)
  simp only [decode, hop, withFormat, if_neg hreserved]

/-- Settles O49: 0 is the word of NOP, NOP only answers, and the other words of its opcode do not decode. -/
theorem nopChangesNothing : Obligations.NopChangesNothing := by
  refine ⟨decode_eq_ok_iff.2 rfl, fun s => rfl, fun s cmd rest hne hlt hinbox => ?_⟩
  exact step_of_decode_error hinbox (decode_eq_reservedField_of_lt hne hlt)

/-! ### BOOT (45_system_commands.md R202) -/

/-- BOOT completes on any medium: it recovers, loads the recovered payload into MASK, and answers it. -/
theorem exec_boot_eq (s : State) :
    exec .boot s = .next (answer (BitVec.ofNat 32 (recover s).curPay.toNat)
      { recover s with mask := (recover s).curPay }) := by
  rw [← fieldAt_zero (by decide)]
  rfl

/-- Settles O30: both events recover and answer the recovered payload; recovery writes no byte. -/
theorem bootIsNvreadThenTheLoadOfMask : Obligations.BootIsNvreadThenTheLoadOfMask := by
  intro s
  exact ⟨_, _, exec_nvread_eq s, exec_boot_eq s, rfl, rfl, nvByte_congr rfl rfl⟩

end Sys2Proof.Proofs

/-! PROOFS. The exceptional events (spec/60_exceptions.md): every event completes or is refused (R210, R212), loss of
power in place of an event (R220), and the idle block (R225). -/

namespace Sys2Proof.Proofs

open Sys2Proof.Machine Sys2Proof.Safety

/-! ### Completion and refusal (60_exceptions.md R210, 30_encoding.md R84) -/

section Completion

variable {i : Instr} {s : State}

/-- Outside the conditions of R84 no guard of `exec` stops the event. -/
theorem exists_next_of_not_refused (h : ¬ Refused i s) : ∃ t, exec i s = .next t := by
  cases i with
  | quant sample mask =>
    obtain ⟨hmask, hsample⟩ := not_or.1 h
    obtain ⟨pitch, -, -, -, hexec⟩ := quantAnswersThePitch.2.2 s sample mask hmask (not_lt.1 hsample)
    exact ⟨_, hexec⟩
  | tick sample gc gt =>
    obtain ⟨r, hexec⟩ := exec_tick_of_le gc gt (not_lt.1 h)
    exact ⟨_, hexec⟩
  | rdreg reg =>
    have hlisted : (readRegister s reg).isSome = true := (readRegister_isSome s reg).trans (decide_eq_true h)
    obtain ⟨v, hv⟩ := Option.isSome_iff_exists.1 hlisted
    exact ⟨_, exec_rdreg_of_readRegister hv⟩
  | nvwrite mask => exact ⟨_, exec_nvwrite_of_valid mask (eq_true_of_ne_false h)⟩
  | flush =>
    have hvalid : s.nvValid = true := eq_true_of_ne_false h
    cases helapsed : s.saveEl with
    | true => exact ⟨_, exec_flush_of_elapsed hvalid helapsed⟩
    | false => exact ⟨_, exec_flush_of_not_elapsed hvalid helapsed⟩
  | nop | btnstep | ledstep | panstep | nvread | boot | reset => exact ⟨_, rfl⟩

/-- Each condition of R84 has its refusal; QUANT asks the mask first. -/
theorem exists_refused_of_refused (h : Refused i s) : ∃ r, exec i s = .refused r := by
  obtain ⟨hempty, hquant, htick⟩ := operandRefusalsOfQuantAndTick
  cases i with
  | quant sample mask =>
    by_cases hmask : mask = 0#12
    · exact ⟨_, hmask ▸ hempty s sample⟩
    · exact ⟨_, hquant s sample mask hmask (h.resolve_left hmask)⟩
  | tick sample gc gt => exact ⟨_, htick s sample gc gt h⟩
  | rdreg reg => exact ⟨_, rdregRefusesUnlistedNumbers s reg (h.imp_left BitVec.eq_of_toNat_eq)⟩
  | nvwrite mask => exact ⟨_, exec_nvwrite_of_invalid mask h⟩
  | flush => exact ⟨_, exec_flush_of_invalid h⟩
  | nop | btnstep | ledstep | panstep | nvread | boot | reset => exact h.elim

end Completion

/-- Settles O8: event by event, the guards of `exec` are the conditions of R84. -/
theorem eventsCompleteUnlessRefused : Obligations.EventsCompleteUnlessRefused :=
  fun _ _ => ⟨exists_next_of_not_refused, exists_refused_of_refused⟩

/-! ### Loss of power in place of an event (60_exceptions.md R220) -/

theorem step_of_powerFailDuring {s : State} {cmd : Word} {j : Fin 4} {g : Option Byte} {rest : List Stimulus}
    (hinbox : s.inbox = .powerFailDuring cmd j g :: rest) :
    step s = .next (powerFailInPlaceOf cmd j g { s with inbox := rest }) := by
  simp only [step, takeStimulus_cons hinbox]

/-- PAYLO is the lower eight bits of the mask (20_memory.md R62). -/
theorem paylo_eq (mask : NoteMask) : mask.extractLsb' 0 8 = BitVec.ofNat 8 mask.toNat := rfl

/-- PAYHI is the upper four bits of the mask under four zero pad bits (20_memory.md R62). -/
theorem payhi_eq (mask : NoteMask) : 0#4 ++ mask.extractLsb' 8 4 = BitVec.ofNat 8 (mask.toNat / 256) := by
  rw [← payhi_toNat, BitVec.ofNat_toNat]
  exact (BitVec.setWidth_eq _).symm

/-- Settles O13: the power failure tears the write, and the torn write is a power-on on the bytes it leaves. -/
theorem powerFailCutsTheSlotWrite : Obligations.PowerFailCutsTheSlotWrite := by
  intro s cmd j g rest mask hinbox hvalid hne hcmd
  have hstep := step_of_powerFailDuring hinbox
  have htorn := step_eq_tornWrite hinbox hvalid hne hcmd hstep
  refine ⟨_, htorn ▸ hstep, tornWrite_frame mask j g { s with inbox := rest }, fun a => ?_⟩
  rw [nvByte_tornWrite, nvByte_tornWrites _ _ _ (show j.val ≤ 3 by omega), nextSlot_toNat, paylo_eq, payhi_eq]
  rfl

/-- Settles O14: a loss of power changes the medium only by tearing a pending write, and none is pending. -/
theorem powerFailElsewhereKeepsTheMedium : Obligations.PowerFailElsewhereKeepsTheMedium := by
  intro s cmd j g rest hinbox hnvwrite hflush
  rw [step_of_powerFailDuring hinbox]
  rcases powerFailInPlaceOf_cases cmd j g { s with inbox := rest } with
    ⟨i, mask, hdec, hpending, -⟩ | ⟨-, hcleared⟩
  · obtain ⟨hvalid, hne, rfl | ⟨rfl, helapsed, rfl⟩⟩ := pendingWrite_eq_some hpending
    · exact absurd (hnvwrite mask hdec hvalid) hne
    · exact absurd (hflush hdec hvalid helapsed) hne
  · rw [hcleared]
    rfl

/-! ### The idle block (60_exceptions.md R225) -/

/-- Settles O7: with an empty stream there is no stimulus to take. -/
theorem idleBlockHoldsItsState : Obligations.IdleBlockHoldsItsState := by
  intro s hinbox
  simp only [step, takeStimulus_nil hinbox]

end Sys2Proof.Proofs

/-! PROOFS. Reset and hazards (spec/70_reset_and_hazards.md): the output codes that fit the converter (R248), RESET as a
power-on (R231, R232), the reset input and the loss of power between events (R230), and the tick before BOOT
(R235). -/

namespace Sys2Proof.Proofs

open Sys2Proof.Machine Sys2Proof.Safety

/-! ### The output codes and the converter (70_reset_and_hazards.md R248) -/

/-- Every entry of a legal Pitch Table lies between its first and its last. -/
theorem pt1_between {p : Config.Params} {code : Nat} (h : Legal p) (hcode : code ≤ adcMax p) :
    pt1 p 0 ≤ pt1 p code ∧ pt1 p code ≤ pt1 p (adcMax p) :=
  ⟨h.tableRises 0 code code.zero_le hcode, h.tableRises code (adcMax p) hcode le_rfl⟩

/-- Settles O22: the pitch is at most five semitones below and six above its table entry (O20), which lies between the
first and the last. -/
theorem outputCodesFitTheConverter : Obligations.OutputCodesFitTheConverter := by
  intro p mask a dacMax pitch hp ha _ hfirst hlast hpitch
  obtain ⟨hlow, hhigh⟩ := pt1_between hp ha
  obtain ⟨-, -, hdown, hup⟩ := quantizerStaysWithinSixSemitones mask _ pitch hpitch
  exact ⟨by omega, by omega, hpitch⟩

/-! ### Reset as a power-on (70_reset_and_hazards.md R230 to R232) -/

theorem exec_reset_eq (s : State) : exec .reset s = .next (answer 0#32 (clearVolatile s)) := rfl

/-- A power-on is its own reset. -/
theorem clearVolatile_powerOn (p : Config.Params) (nv : Memory) :
    clearVolatile (State.powerOn p nv) = State.powerOn p nv := rfl

theorem nvByte_powerOn (s : State) (a : Nat) : nvByte (State.powerOn s.params s.nv) a = nvByte s a :=
  nvByte_congr rfl rfl a

/-- Settles O11: RESET is a power-on on the medium as it stands, and the first one finds no byte written. -/
theorem powerOnIsResetWithAnErasedMedium : Obligations.PowerOnIsResetWithAnErasedMedium := by
  refine ⟨rfl, fun p => ⟨fun _ => rfl, ?_, ?_⟩⟩
  · rw [exec_reset_eq, State.resetWith, clearVolatile_powerOn]
    rfl
  · rintro s rfl
    exact ⟨nvByte_powerOn s, exec_reset_eq s⟩

/-- The reset input and a loss of power between events are one shared operation (70_reset_and_hazards.md R230). -/
theorem step_of_reset_stimulus {s : State} {x : Stimulus} {rest : List Stimulus}
    (hx : x = .resetInput ∨ x = .powerFail) (hinbox : s.inbox = x :: rest) :
    step s = .next (clearVolatile { s with inbox := rest }) := by
  rcases hx with rfl | rfl <;> simp only [step, takeStimulus_cons hinbox]

/-- Settles O12: RESET is that operation with an answer, and the operation leaves none. -/
theorem resetInputAndPowerFailActAsReset : Obligations.ResetInputAndPowerFailActAsReset := by
  intro s t rest hreset
  rw [exec_reset_eq] at hreset
  obtain rfl := Host.Outcome.next.inj hreset
  exact ⟨step_of_reset_stimulus (.inl rfl), step_of_reset_stimulus (.inr rfl)⟩

/-! ### The tick before BOOT (70_reset_and_hazards.md R235) -/

/-- Nothing for a tick to do but filter: no note is enabled, the output is silent, no touch waits, and neither timer
runs. -/
structure NothingPending (s : State) : Prop where
  mask : s.mask = 0#12
  emitValid : s.emitValid = false
  prevEmit : s.prevEmit = 0#16
  sound : s.sound = 0xF#4
  dacCode : s.dacCode = 0#16
  gate : s.gate = false
  touch : s.touch = false
  gateSt : s.gateSt = .idle
  saveSt : s.saveSt = .idle

section Quiet

variable {s : State}

theorem nothingPending_powerOn (p : Config.Params) (nv : Memory) : NothingPending (State.powerOn p nv) := by
  constructor <;> rfl

/-- FILTACC is no part of the pending work. -/
theorem NothingPending.with_filtAcc (h : NothingPending s) (acc : BitVec 32) :
    NothingPending { s with filtAcc := acc } := { h with }

theorem tickPoll_of_untouched (h : s.touch = false) : tickPoll s = s := if_neg (Bool.eq_false_iff.1 h)

theorem tickSilence_of_silent (hvalid : s.emitValid = false) (hemit : s.prevEmit = 0#16) (hsound : s.sound = 0xF#4) :
    tickSilence s = s := by
  ext1 <;> simp [hvalid, hemit, hsound]

theorem tickTimer_idle (cnt : BitVec 32) : tickTimer cnt .idle = ⟨cnt, .idle, false⟩ := rfl

theorem tickGate_of_idle (h : s.gateSt = .idle) : tickGate s = s := by
  ext1 <;> simp [h, tickTimer_idle]

theorem tickSave_of_idle (h : s.saveSt = .idle) : tickSave s = s := by
  ext1 <;> simp [h, tickTimer_idle]

/-- Steps 1 to 6 filter and begin no output. -/
theorem NothingPending.tickFront_eq_filter (h : NothingPending s) (sample : Sample) (gc gt : Bool) :
    tickFront sample gc gt s = (tickFilter sample s, false) := by
  have hfiltered : NothingPending (tickFilter sample s) := h.with_filtAcc _
  rw [tickFront_of_mask_zero gc gt h.mask, polled, tickPoll_of_untouched hfiltered.touch,
    tickSilence_of_silent hfiltered.emitValid hfiltered.prevEmit hfiltered.sound]

/-- The two idle timers of steps 7 and 8 add nothing. -/
theorem NothingPending.tickState_eq_filter (h : NothingPending s) (sample : Sample) (gc gt : Bool) :
    tickState sample gc gt s = tickFilter sample s := by
  have hfiltered : NothingPending (tickFilter sample s) := h.with_filtAcc _
  rw [tickState, h.tickFront_eq_filter, tickGate_of_idle hfiltered.gateSt, tickSave_of_idle hfiltered.saveSt]

theorem NothingPending.gateEnds_eq (h : NothingPending s) : gateEnds s = false := by
  rw [gateEnds, h.gateSt, tickTimer_idle]

theorem NothingPending.saveElapses_eq (h : NothingPending s) : saveElapses s = false := by
  rw [saveElapses, h.saveSt, tickTimer_idle]

/-- With the gate off, the code 0 and no flag, every bit of the answer is 0. -/
theorem NothingPending.tickResponse_eq_zero (h : NothingPending s) : tickResponse s false false false = 0#32 := by
  rw [tickResponse, h.gate, h.dacCode]
  rfl

/-- With nothing pending a tick filters its sample and answers 0. -/
theorem NothingPending.exec_tick (h : NothingPending s) {sample : Sample} (gc gt : Bool)
    (hsample : sample.toNat ≤ adcMax s.params) :
    exec (.tick sample gc gt) s = .next (answer 0#32 (tickFilter sample s)) := by
  have hfiltered : NothingPending (tickFilter sample s) := h.with_filtAcc _
  refine execTick_next_iff.2 ⟨hsample, ?_⟩
  rw [h.tickState_eq_filter, h.tickFront_eq_filter, tickGate_of_idle hfiltered.gateSt, hfiltered.gateEnds_eq,
    hfiltered.saveElapses_eq, hfiltered.tickResponse_eq_zero]

end Quiet

/-- Settles O48: a power-on has nothing pending, whatever the medium and FILTACC hold. -/
theorem tickBeforeBootOnlyFilters : Obligations.TickBeforeBootOnlyFilters := by
  rintro p nv acc sample gc gt _ rfl hsample
  exact ⟨_, ((nothingPending_powerOn p nv).with_filtAcc acc).exec_tick gc gt hsample, rfl⟩

end Sys2Proof.Proofs
